-- ==== Sys2Proof/Word.lean ====
section
/-! DEFINITION. The two word types of the CORE (00_scope.md R7: data width 8 bits, address width 16 bits). -/

namespace Sys2Proof

/-- An 8-bit value: A, X, Y, SP, a memory cell, an operand byte (R7, R8). -/
abbrev Byte := BitVec 8

/-- A 16-bit value: PC and every address (R7, R8, R30). -/
abbrev Addr := BitVec 16

end Sys2Proof
end

