-- ==== Sys2Proof/Machine/Bits.lean ====
section
/-! DEFINITION. Extension, concatenation and the halves of a 16-bit value (00_scope.md R8). -/

namespace Sys2Proof

/-- `zext_16(v)` (R8). -/
def zext16 (v : Byte) : Addr := v.setWidth 16

/-- `sext_16(v)`: bit 7 copied into bits 15 to 8 (R8). -/
def sext16 (v : Byte) : Addr := v.signExtend 16

/-- `{hi, lo}`: the concatenation with `hi` in the high bits (R8). -/
def word16 (hi lo : Byte) : Addr := hi ++ lo

/-- `w[15:8]` (R8). -/
def hiByte (w : Addr) : Byte := w.extractLsb' 8 8

/-- `w[7:0]` (R8). -/
def loByte (w : Addr) : Byte := w.extractLsb' 0 8

end Sys2Proof
end

