-- ==== Sys2Proof/Config.lean ====
section
/-! DEFINITION. What is fixed before a run: the parameters of 00_scope.md R7, and the values the spec leaves
free (opaque constants: nothing can be proved about their value). -/

namespace Sys2Proof

/-- The contents of an array of byte cells: the cells that do not hold 0x00, in rising order of index (the
canonical form is `Memory.wf` of Machine/Memory.lean). An index that is not listed reads 0x00 (log 3). -/
abbrev Memory := List Host.Cell

/-- The mapper variant attached to the Bus (R37; parameter MAPPER, D39). -/
inductive MapperVariant where
  /-- The NROM-like fixed-window mapper (R38 to R40). -/
  | nrom
  /-- The dummy flat-RAM mapper (R41). -/
  | dummy
  deriving DecidableEq, Repr

/-- The parameters of R7, arguments of `powerOn`. -/
structure Params where
  /-- MAPPER (D39). -/
  mapper : MapperVariant
  /-- How many bytes `PRG` has (R42: 0x4000 or 0x8000; used with the NROM-like mapper only). -/
  prgLength : Nat
  /-- The bytes of PRG, by offset (R38). -/
  prg : Memory
  /-- DUMMY_INIT, by bus address (R41, D26). -/
  dummyInit : Memory
  /-- RAM_INIT, by RAM index (R22, D4). -/
  ramInit : Memory
  /-- POWERON_A (R22, D3). -/
  powerOnA : Byte
  /-- POWERON_X (R22, D3). -/
  powerOnX : Byte
  /-- POWERON_Y (R22, D3). -/
  powerOnY : Byte
  /-- ADC_CARRY_IN (R101, D11). -/
  adcCarryIn : Bool
  deriving DecidableEq, Repr

/-- The parameters State.reset is built from: the dummy mapper, every array all zero, the power-on registers
zero, ADC_CARRY_IN at its default. DESIGN CHOICE, unsafe (log 2, log 3, log 4); ADC_CARRY_IN is the spec's default
(R7, log 1). -/
def Params.default : Params where
  mapper := .dummy
  prgLength := 0
  prg := []
  dummyInit := []
  ramInit := []
  powerOnA := 0
  powerOnX := 0
  powerOnY := 0
  adcCarryIn := false

/-- NROM_LOW_READ (R40, U5): what the n-th read of 0x4020-0x7FFF under the NROM-like mapper returns. FREE VALUE
(log 6). -/
opaque Config.nromLowRead : Nat → Byte

/-- PC between `power_on` and the first `reset()` (R22, U3): unspecified. FREE VALUE (log 5). -/
opaque Config.powerOnPC : Addr

end Sys2Proof
end

