-- ==== Sys2Proof/Machine/State.lean ====
section
/-! DEFINITION. The state of the CORE (10_state.md), the reasons a step can stop, and the state right after reset. -/

namespace Sys2Proof.Machine

/-- The seven flags, each one bit of state of its own; the packed byte is not state (R13, D40). -/
structure Flags where
  /-- Negative. -/
  n : Bool
  /-- Overflow. -/
  v : Bool
  /-- Break, a stored flag (R13). -/
  b : Bool
  /-- Decimal: stored, read by no arithmetic (R103). -/
  d : Bool
  /-- InterruptDisable: stored, masks nothing (R207). -/
  i : Bool
  /-- Zero. -/
  z : Bool
  /-- Carry. -/
  c : Bool
  deriving DecidableEq, Repr

/-- The engine state (R20, R221). -/
inductive Engine where
  /-- Constructed by `power_on`, `reset()` not yet performed (R20, R221). -/
  | constructed
  /-- Inside `reset()`: transient, never seen at an instruction boundary (R20, R222). -/
  | reset
  /-- The only steady state (R20). -/
  | running
  deriving DecidableEq, Repr

/-- The result a step reports (R200, R201). None of them stops the engine. -/
inductive Condition where
  /-- No condition. -/
  | ok
  /-- A write through Immediate mode (R202). -/
  | invalidWrite
  /-- The opcode's cell is unsupported or its category is 11 (R203). -/
  | unimplementedOpcode
  /-- A write the NROM-like mapper rejected (R204). -/
  | mapperWriteRejected
  deriving DecidableEq, Repr

/-- The state. `mapper`, `prg`, `prgExtended` and `adcCarryIn` are the parameters of a run (R7, 10_state.md section 1):
they are here as plain data so that a statement about every state covers every value of them, and no transaction changes
them. `cond` is the output of the last step (R201, log 7). `freeReads` is the model's own field (log 6). -/
structure State where
  /-- A, the accumulator (R10). -/
  a : Byte
  /-- X (R10). -/
  x : Byte
  /-- Y (R10). -/
  y : Byte
  /-- SP (R12). -/
  sp : Byte
  /-- PC: at an instruction boundary the address of the next opcode byte (R11). -/
  pc : Addr
  /-- The status register (R13). -/
  flags : Flags
  /-- RAM[0 .. 0x7FF], owned by the Bus (R18). -/
  ram : Memory
  /-- DRAM[0 .. 0xFFFF], the dummy mapper's memory, by bus address (R19, R41). -/
  dram : Memory
  /-- The engine state (R20). -/
  engine : Engine
  /-- What the last step reported (R201). -/
  cond : Condition
  /-- MAPPER (R37, D39). -/
  mapper : MapperVariant
  /-- getPRG_ROM(): the cartridge's program bytes, by offset (R38, R42). -/
  prg : Memory
  /-- isExtended(): the program bank has 0x8000 bytes, not 0x4000 (R42). -/
  prgExtended : Bool
  /-- ADC_CARRY_IN (R101, D11). -/
  adcCarryIn : Bool
  /-- How many reads of an unspecified byte (R40) have been made: the index of the next free value. -/
  freeReads : Nat
  deriving DecidableEq, Repr

/-- The engine never stops and no condition ends a run ("There is no halt state", R20, R200, R205), so there is no
fault: the type has no constructor. The three conditions are next states that carry `cond`. -/
inductive Fault where
  deriving DecidableEq, Repr

/-- Why the model has no transition. -/
inductive Refusal where
  /-- Raised by no arm of `exec`: every instruction has its meaning. Safe. -/
  | notModelled (mnemonic : String)
  /-- Raised by `step` when the engine is not Running: a step before the first `reset()` has no meaning (R221, D37).
  Safe. -/
  | notRunning
  /-- Raised by `powerOn` for an NROM cartridge whose PRG has neither 0x4000 nor 0x8000 bytes (R42, D24). Safe. -/
  | cartridgeLength
  /-- Raised by `powerOn` for parameter arrays with a cell outside the array or not in canonical form: no such parameters
  exist (log 3). Safe. -/
  | malformedArrays
  deriving DecidableEq, Repr

/-- The flags after `power_on` and after `reset()`: I set, the others clear (R22, R23, D5). -/
def Flags.initial : Flags where
  n := false
  v := false
  b := false
  d := false
  i := true
  z := false
  c := false

/-- The machine right after `power_on` with `Params.default` and `reset()` (R22, R23): SP = 0xFD, I set and the other
flags clear, Running, PC = ReadWord(0xFFFC), which is 0x0000 because DUMMY_INIT lists nothing (log 5). A, X, Y are
POWERON_A, POWERON_X, POWERON_Y, here 0x00 (log 4); the arrays list nothing (log 3). -/
def State.reset : State where
  a := 0x00
  x := 0x00
  y := 0x00
  sp := 0xFD
  pc := 0x0000
  flags := Flags.initial
  ram := []
  dram := []
  engine := .running
  cond := .ok
  mapper := .dummy
  prg := []
  prgExtended := false
  adcCarryIn := false
  freeReads := 0

end Sys2Proof.Machine
end

