-- ==== Sys2Proof/Machine/Flags.lean ====
section
/-! DEFINITION. The flag_arithmetic block: pack and unpack (10_state.md R14, R15) and the arithmetic cores
(41_flag_arithmetic.md R100 to R108). The Decimal flag is read by none of them (R103). -/

namespace Sys2Proof.Machine

/-- `Pack()`: N V 1 B D I Z C from bit 7 to bit 0 (R14). -/
def Flags.pack (f : Flags) : Byte :=
  BitVec.ofBool f.n ++ BitVec.ofBool f.v ++ BitVec.ofBool true ++ BitVec.ofBool f.b ++
    BitVec.ofBool f.d ++ BitVec.ofBool f.i ++ BitVec.ofBool f.z ++ BitVec.ofBool f.c

/-- `Unpack(b)`: the seven flags from bits 7, 6, 4, 3, 2, 1, 0; bit 5 is discarded (R15). -/
def Flags.unpack (b : Byte) : Flags where
  n := b.getLsbD 7
  v := b.getLsbD 6
  b := b.getLsbD 4
  d := b.getLsbD 3
  i := b.getLsbD 2
  z := b.getLsbD 1
  c := b.getLsbD 0

/-- What `PullFlags()` leaves in the flags for the pulled byte: `Unpack(b); B <- 0` (R16, D21). -/
def Flags.pulled (b : Byte) : Flags := { Flags.unpack b with b := false }

/-- `SetNZ(r)`: N is bit 7 of the result, Z says that it is 0x00 (R100). -/
def Flags.setNZ (f : Flags) (r : Byte) : Flags := { f with n := r.msb, z := r == 0 }

/-- `C <- c`. -/
def Flags.setC (f : Flags) (c : Bool) : Flags := { f with c := c }

/-- `V <- v`. -/
def Flags.setV (f : Flags) (v : Bool) : Flags := { f with v := v }

/-- `D <- d`. -/
def Flags.setD (f : Flags) (d : Bool) : Flags := { f with d := d }

/-- `I <- i`. -/
def Flags.setI (f : Flags) (i : Bool) : Flags := { f with i := i }

/-- `B <- b`. -/
def Flags.setB (f : Flags) (b : Bool) : Flags := { f with b := b }

/-- The three flags a compare writes (R104, R105). -/
def Flags.setCompare (f : Flags) (c z n : Bool) : Flags := { f with c := c, z := z, n := n }

/-- `(r, c, v)` of an addition or a subtraction (R101, R102). -/
structure Sum where
  r : Byte
  c : Bool
  v : Bool
  deriving DecidableEq, Repr

/-- `(r, c)` of a shift or a rotate (R106, R107). -/
structure Shifted where
  r : Byte
  c : Bool
  deriving DecidableEq, Repr

/-- Overflow by the same-sign rule: operands of equal sign, a result of the other sign (R101, R102). -/
def sameSignOverflow (a m r : Byte) : Bool := a.msb == m.msb && r.msb != a.msb

/-- `AddCore(a, m, cin)`: the sum is an unbounded integer (R101). -/
def addCore (a m : Byte) (cin : Bool) : Sum :=
  let sum := a.toNat + m.toNat + cin.toNat
  let r : Byte := BitVec.ofNat 8 sum
  { r := r, c := decide (sum > 0xFF), v := sameSignOverflow a m r }

/-- `SubCore(a, m)`: the difference on 16 bits, two's complement; C says that the bits above 7 are 0 (no borrow); V by the
same literal rule as the addition; the incoming Carry is not read (R102, D35). -/
def subCore (a m : Byte) : Sum :=
  let diff : Addr := zext16 a - zext16 m
  let r : Byte := loByte diff
  { r := r, c := diff >>> 8 == 0, v := sameSignOverflow a m r }

/-- `CmpCoreA(a, m)` of CMP: N is bit 7 of `a` itself, not of the difference (R104). -/
def cmpCoreA (a m : Byte) (f : Flags) : Flags := f.setCompare (decide (m.toNat ≤ a.toNat)) (a == m) a.msb

/-- `CmpCoreXY(x, m)` of CPX and CPY: N is bit 7 of the 8-bit difference (R105, D29). -/
def cmpCoreXY (x m : Byte) (f : Flags) : Flags := f.setCompare (decide (m.toNat ≤ x.toNat)) (x == m) (x - m).msb

/-- `ShiftCore(ASL, v)` (R106). -/
def aslCore (v : Byte) : Shifted := { r := v <<< 1, c := v.getLsbD 7 }

/-- `ShiftCore(LSR, v)` (R106). -/
def lsrCore (v : Byte) : Shifted := { r := v >>> 1, c := v.getLsbD 0 }

/-- `RotateCore(ROL, v, cin)`: `{v[6:0], cin}` (R107). -/
def rolCore (v : Byte) (cin : Bool) : Shifted :=
  { r := v.extractLsb' 0 7 ++ BitVec.ofBool cin, c := v.getLsbD 7 }

/-- `RotateCore(ROR, v, cin)`: `{cin, v[7:1]}` (R107). -/
def rorCore (v : Byte) (cin : Bool) : Shifted :=
  { r := BitVec.ofBool cin ++ v.extractLsb' 1 7, c := v.getLsbD 0 }

/-- `IncCore(v)`, modulo 0x100 (R108). -/
def incCore (v : Byte) : Byte := v + 1

/-- `DecCore(v)`, modulo 0x100 (R108). -/
def decCore (v : Byte) : Byte := v - 1

end Sys2Proof.Machine
end

