-- ==== Sys2Proof/Machine/Memory.lean ====
section
/-! DEFINITION. Arrays of byte cells (10_state.md R18, R19; 20_memory.md R38) as lists in one canonical form. -/

namespace Sys2Proof

/-- The byte at an index; an index that is not listed reads 0x00 (log 3). -/
def Memory.read : Memory → Nat → Byte
  | [], _ => 0
  | (k, v) :: m, a => if k = a then v else Memory.read m a

/-- The array with the cell of an index removed from the list. -/
def Memory.erase (m : Memory) (a : Nat) : Memory := m.filter (fun cell => cell.1 != a)

/-- The array with a cell put before the first one of a greater index. -/
def Memory.insert : Memory → Nat → Byte → Memory
  | [], a, v => [(a, v)]
  | (k, u) :: m, a, v => if a < k then (a, v) :: (k, u) :: m else (k, u) :: Memory.insert m a v

/-- `array[a] <- v`, keeping the canonical form: a cell that gets 0x00 is no longer listed. -/
def Memory.write (m : Memory) (a : Nat) (v : Byte) : Memory :=
  if v = 0 then Memory.erase m a else Memory.insert (Memory.erase m a) a v

/-- The canonical form: indices strictly rising, no listed cell holds 0x00. -/
def Memory.wf : Memory → Bool
  | [] => true
  | [(_, v)] => v != 0
  | (k, v) :: (k', v') :: m => v != 0 && decide (k < k') && Memory.wf ((k', v') :: m)

/-- Every listed index is less than `n`: the list is the contents of an array of `n` cells. -/
def Memory.within (n : Nat) (m : Memory) : Bool := m.all (fun cell => decide (cell.1 < n))

end Sys2Proof
end

