-- ==== Sys2Proof/Machine/Registers.lean ====
section
/-! DEFINITION. The one way each field of State is written. -/

namespace Sys2Proof.Machine

/-- `A <- v` (R10). -/
def State.setA (s : State) (v : Byte) : State := { s with a := v }

/-- `X <- v` (R10). -/
def State.setX (s : State) (v : Byte) : State := { s with x := v }

/-- `Y <- v` (R10). -/
def State.setY (s : State) (v : Byte) : State := { s with y := v }

/-- `SP <- v` (R12). -/
def State.setSP (s : State) (v : Byte) : State := { s with sp := v }

/-- `PC <- w`: every 16-bit value is a legal PC (R11). -/
def State.setPC (s : State) (w : Addr) : State := { s with pc := w }

/-- The seven flags, all at once (R13). -/
def State.setFlags (s : State) (f : Flags) : State := { s with flags := f }

/-- The internal RAM (R18). -/
def State.setRAM (s : State) (m : Memory) : State := { s with ram := m }

/-- The dummy mapper's memory (R19). -/
def State.setDRAM (s : State) (m : Memory) : State := { s with dram := m }

/-- The cartridge's program bytes: written by no instruction, only when a program is loaded before a run (R42). -/
def State.setPRG (s : State) (m : Memory) : State := { s with prg := m }

/-- The engine state (R20). -/
def State.setEngine (s : State) (e : Engine) : State := { s with engine := e }

/-- `report <Condition>`: `cond` of this step; execution continues (R8, R201). -/
def State.report (s : State) (c : Condition) : State := { s with cond := c }

/-- One more read of an unspecified byte has been made (R40, log 6). -/
def State.useFreeRead (s : State) : State := { s with freeReads := s.freeReads + 1 }

/-- `PC <- PC + n`, modulo 0x10000 (R11, D8). -/
def State.advancePC (s : State) (n : Nat) : State := s.setPC (s.pc + BitVec.ofNat 16 n)

/-- The 2-bit code of a condition on the `cond` output (R200, D2). -/
def Condition.code : Condition → BitVec 2
  | .ok => 0
  | .invalidWrite => 1
  | .unimplementedOpcode => 2
  | .mapperWriteRejected => 3

end Sys2Proof.Machine
end

