-- ==== Sys2Proof/Machine/Ops.lean ====
section
/-! DEFINITION. The memory_bus_controller, the address_decoder and the mapper (20_memory.md), the stack (10_state.md R12),
and the vectored entry and return (60_exceptions.md R208, R209). Reads and writes follow one another in the order the
spec's pseudocode lists them (R53). -/

namespace Sys2Proof.Machine

/-- The four regions of the address space (R32). -/
inductive Region where
  | ram
  | ppuStub
  | apuStub
  | cartridge
  deriving DecidableEq, Repr

/-- The address decoder (R32). -/
def regionOf (addr : Addr) : Region :=
  if addr.toNat ≤ 0x1FFF then .ram
  else if addr.toNat ≤ 0x3FFF then .ppuStub
  else if addr.toNat ≤ 0x401F then .apuStub
  else .cartridge

/-- The RAM cell of an address of the RAM region: `address mod 0x800` (R33). -/
def ramIndex (addr : Addr) : Nat := addr.toNat % 0x800

/-- The offset in PRG of an address of the NROM-like mapper's window; a bank that is not extended is mirrored (R38). -/
def prgOffset (extended : Bool) (addr : Addr) : Nat :=
  let off := addr.toNat - 0x8000
  if extended then off else off % 0x4000

/-- What `readPRG(addr)` returns, where the spec states it: with the NROM-like mapper an address below its window has no
stated value (R38, R40); the dummy mapper is indexed by the address itself (R41). -/
def peekPRG (s : State) (addr : Addr) : Option Byte :=
  match s.mapper with
  | .nrom => if 0x8000 ≤ addr.toNat then some (s.prg.read (prgOffset s.prgExtended addr)) else none
  | .dummy => some (s.dram.read addr.toNat)

/-- The byte a read of an address returns, where the spec states one; `none` where it is unspecified (R32 to R41). It is
what the host sees of memory between transactions (R228). -/
def State.peek (s : State) (addr : Addr) : Option Byte :=
  match regionOf addr with
  | .ram => some (s.ram.read (ramIndex addr))
  | .ppuStub => some 0
  | .apuStub => some 0
  | .cartridge => peekPRG s addr

/-- `MemRead(addr, 1)` (R31): the byte and the state after it. A read changes no state of the machine (R46); an
unspecified one takes a fresh free value (R40, log 6). -/
def memRead (addr : Addr) (s : State) : Byte × State :=
  match s.peek addr with
  | some v => (v, s)
  | none => (Config.nromLowRead s.freeReads, s.useFreeRead)

/-- `writePRG(addr, v)`: rejected and reported by the NROM-like mapper, performed by the dummy mapper (R37, R39, R41). -/
def writePRG (addr : Addr) (v : Byte) (s : State) : State :=
  match s.mapper with
  | .nrom => s.report .mapperWriteRejected
  | .dummy => s.setDRAM (s.dram.write addr.toNat v)

/-- `MemWrite(addr, 1, v)` (R31 to R36). -/
def memWrite (addr : Addr) (v : Byte) (s : State) : State :=
  match regionOf addr with
  | .ram => s.setRAM (s.ram.write (ramIndex addr) v)
  | .ppuStub => s
  | .apuStub => s
  | .cartridge => writePRG addr v s

/-- `ReadWord(addr)`: the low byte at the address, then the high byte at the next address modulo 0x10000 (R43, D9). -/
def readWord (addr : Addr) (s : State) : Addr × State :=
  let lo := memRead addr s
  let hi := memRead (addr + 1) lo.2
  (word16 hi.1 lo.1, hi.2)

/-- `A <- r; SetNZ(r)`: a result that goes to A (R100). -/
def loadA (r : Byte) (s : State) : State := (s.setA r).setFlags (s.flags.setNZ r)

/-- `X <- r; SetNZ(r)`: a result that goes to X (R100). -/
def loadX (r : Byte) (s : State) : State := (s.setX r).setFlags (s.flags.setNZ r)

/-- `Y <- r; SetNZ(r)`: a result that goes to Y (R100). -/
def loadY (r : Byte) (s : State) : State := (s.setY r).setFlags (s.flags.setNZ r)

/-- The address of the stack cell a value of SP designates (R12). -/
def stackAddr (sp : Byte) : Addr := 0x0100 + zext16 sp

/-- `Push(v)` (R12). -/
def push (v : Byte) (s : State) : State :=
  let s1 := memWrite (stackAddr s.sp) v s
  s1.setSP (s1.sp - 1)

/-- `Pull()` (R12). -/
def pull (s : State) : Byte × State :=
  let s1 := s.setSP (s.sp + 1)
  memRead (stackAddr s1.sp) s1

/-- A word pushed high byte first, so that the low byte lies at the lower address (R43, R150, R152). -/
def pushWord (w : Addr) (s : State) : State := push (loByte w) (push (hiByte w) s)

/-- A word pulled low byte first (R151, R153). -/
def pullWord (s : State) : Addr × State :=
  let lo := pull s
  let hi := pull lo.2
  (word16 hi.1 lo.1, hi.2)

/-- `PullFlags()` (R16). -/
def pullFlags (s : State) : State :=
  let b := pull s
  b.2.setFlags (Flags.pulled b.1)

/-- The address of the Reset vector (R47). -/
def resetVector : Addr := 0xFFFC

/-- The address of the IRQ/BRK vector (R47). -/
def breakVector : Addr := 0xFFFE

/-- The vectored entry (R208, R152): the return address and then the flag byte with B = 1 are pushed, B and I are set, PC
takes the word at the vector. -/
def enterVector (ret vector : Addr) (s : State) : State :=
  let s1 := pushWord ret s
  let s2 := s1.setFlags (s1.flags.setB true)
  let s3 := push s2.flags.pack s2
  let s4 := s3.setFlags (s3.flags.setI true)
  let target := readWord vector s4
  target.2.setPC target.1

/-- The return from a vectored entry (R209, R153): the flags, then PC low and PC high, and no increment. -/
def returnFromVector (s : State) : State :=
  let target := pullWord (pullFlags s)
  target.2.setPC target.1

end Sys2Proof.Machine
end

