-- ==== Sys2Proof/Syntax.lean ====
section
/-! DEFINITION. The instruction set as syntax: one constructor of `Instr` per row of spec/opcode_table.json (one per
opcode byte value: the 152 defined cells of 30_encoding.md R63 to R65 and the 104 unimplemented bytes of R68), with the
operand the bytes after the opcode give (R66, R67). -/

namespace Sys2Proof

/-- The twelve addressing-mode tags (R80; one tag for Implied and Accumulator, D38). -/
inductive Mode where
  /-- R81. -/
  | impliedAccumulator
  /-- R82. -/
  | immediate
  /-- R83. -/
  | zeroPage
  /-- R84. -/
  | zeroPageX
  /-- R85. -/
  | zeroPageY
  /-- R86. -/
  | absolute
  /-- R87. -/
  | absoluteX
  /-- R88. -/
  | absoluteY
  /-- R89 (pre-indexed). -/
  | indirectX
  /-- R90 (post-indexed). -/
  | indirectY
  /-- R91 (indirect JMP only). -/
  | absoluteIndirect
  /-- R93 (branch offset). -/
  | relative
  deriving DecidableEq, Repr

/-- The operand bytes of each mode (R60). -/
def Mode.operandLength : Mode → Nat
  | .impliedAccumulator => 0
  | .immediate | .zeroPage | .zeroPageX | .zeroPageY | .indirectX | .indirectY | .relative => 1
  | .absolute | .absoluteX | .absoluteY | .absoluteIndirect => 2

/-- The operand of an instruction that reads or writes a data byte: a mode that yields an effective address (R80,
R95), with the value its operand bytes hold (R67). -/
inductive Operand where
  | immediate (v : Byte)
  | zeroPage (p : Byte)
  | zeroPageX (p : Byte)
  | zeroPageY (p : Byte)
  | absolute (w : Addr)
  | absoluteX (w : Addr)
  | absoluteY (w : Addr)
  | indirectX (p : Byte)
  | indirectY (p : Byte)
  deriving DecidableEq, Repr

/-- The mode tag of a data operand. -/
def Operand.mode : Operand → Mode
  | .immediate _ => .immediate
  | .zeroPage _ => .zeroPage
  | .zeroPageX _ => .zeroPageX
  | .zeroPageY _ => .zeroPageY
  | .absolute _ => .absolute
  | .absoluteX _ => .absoluteX
  | .absoluteY _ => .absoluteY
  | .indirectX _ => .indirectX
  | .indirectY _ => .indirectY

/-- The value the operand bytes hold, before any mode gives it a meaning (R66). -/
inductive Payload where
  | none
  | byte (b : Byte)
  | word (w : Addr)
  deriving DecidableEq, Repr

/-- How many operand bytes hold it (R66). -/
def Payload.length : Payload → Nat
  | .none => 0
  | .byte _ => 1
  | .word _ => 2

/-- The three-letter names of R63 to R65, and one name for the 104 unimplemented bytes. -/
inductive Mnemonic where
  | brk | ora | asl | php | bpl | clc | jsr | and | bit | rol | plp | bmi | sec | rti | eor | lsr | pha | jmp | bvc
  | cli | rts | adc | ror | pla | bvs | sei | sta | sty | stx | dey | txa | bcc | tya | txs | ldy | lda | ldx | tay
  | tax | bcs | clv | tsx | cpy | cmp | dec | iny | dex | bne | cld | cpx | sbc | inc | inx | nop | beq | sed
  | unimplemented
  deriving DecidableEq, Repr

/-- The instructions, in the order of category, group and selector (R61). The operand of each constructor is typed by its
width in the encoding, so a term of `Instr` cannot hold a value its operand bytes cannot (R66, R67). -/
inductive Instr where
  -- Category 01 (R63).
  /-- 0x01: ORA INX (R110, R89). -/
  | oraInx (p : Byte)
  /-- 0x05: ORA ZP (R110, R83). -/
  | oraZp (p : Byte)
  /-- 0x09: ORA IMM (R110, R82). -/
  | oraImm (v : Byte)
  /-- 0x0D: ORA ABS (R110, R86). -/
  | oraAbs (w : Addr)
  /-- 0x11: ORA INY (R110, R90). -/
  | oraIny (p : Byte)
  /-- 0x15: ORA ZPX (R110, R84). -/
  | oraZpx (p : Byte)
  /-- 0x19: ORA ABY (R110, R88). -/
  | oraAby (w : Addr)
  /-- 0x1D: ORA ABX (R110, R87). -/
  | oraAbx (w : Addr)
  /-- 0x21: AND INX (R111, R89). -/
  | andInx (p : Byte)
  /-- 0x25: AND ZP (R111, R83). -/
  | andZp (p : Byte)
  /-- 0x29: AND IMM (R111, R82). -/
  | andImm (v : Byte)
  /-- 0x2D: AND ABS (R111, R86). -/
  | andAbs (w : Addr)
  /-- 0x31: AND INY (R111, R90). -/
  | andIny (p : Byte)
  /-- 0x35: AND ZPX (R111, R84). -/
  | andZpx (p : Byte)
  /-- 0x39: AND ABY (R111, R88). -/
  | andAby (w : Addr)
  /-- 0x3D: AND ABX (R111, R87). -/
  | andAbx (w : Addr)
  /-- 0x41: EOR INX (R112, R89). -/
  | eorInx (p : Byte)
  /-- 0x45: EOR ZP (R112, R83). -/
  | eorZp (p : Byte)
  /-- 0x49: EOR IMM (R112, R82). -/
  | eorImm (v : Byte)
  /-- 0x4D: EOR ABS (R112, R86). -/
  | eorAbs (w : Addr)
  /-- 0x51: EOR INY (R112, R90). -/
  | eorIny (p : Byte)
  /-- 0x55: EOR ZPX (R112, R84). -/
  | eorZpx (p : Byte)
  /-- 0x59: EOR ABY (R112, R88). -/
  | eorAby (w : Addr)
  /-- 0x5D: EOR ABX (R112, R87). -/
  | eorAbx (w : Addr)
  /-- 0x61: ADC INX (R113, R89). -/
  | adcInx (p : Byte)
  /-- 0x65: ADC ZP (R113, R83). -/
  | adcZp (p : Byte)
  /-- 0x69: ADC IMM (R113, R82). -/
  | adcImm (v : Byte)
  /-- 0x6D: ADC ABS (R113, R86). -/
  | adcAbs (w : Addr)
  /-- 0x71: ADC INY (R113, R90). -/
  | adcIny (p : Byte)
  /-- 0x75: ADC ZPX (R113, R84). -/
  | adcZpx (p : Byte)
  /-- 0x79: ADC ABY (R113, R88). -/
  | adcAby (w : Addr)
  /-- 0x7D: ADC ABX (R113, R87). -/
  | adcAbx (w : Addr)
  /-- 0x81: STA INX (R114, R89). -/
  | staInx (p : Byte)
  /-- 0x85: STA ZP (R114, R83). -/
  | staZp (p : Byte)
  /-- 0x89: STA IMM, the invalid write (R115, R82). -/
  | staImm (v : Byte)
  /-- 0x8D: STA ABS (R114, R86). -/
  | staAbs (w : Addr)
  /-- 0x91: STA INY (R114, R90). -/
  | staIny (p : Byte)
  /-- 0x95: STA ZPX (R114, R84). -/
  | staZpx (p : Byte)
  /-- 0x99: STA ABY (R114, R88). -/
  | staAby (w : Addr)
  /-- 0x9D: STA ABX (R114, R87). -/
  | staAbx (w : Addr)
  /-- 0xA1: LDA INX (R116, R89). -/
  | ldaInx (p : Byte)
  /-- 0xA5: LDA ZP (R116, R83). -/
  | ldaZp (p : Byte)
  /-- 0xA9: LDA IMM (R116, R82). -/
  | ldaImm (v : Byte)
  /-- 0xAD: LDA ABS (R116, R86). -/
  | ldaAbs (w : Addr)
  /-- 0xB1: LDA INY (R116, R90). -/
  | ldaIny (p : Byte)
  /-- 0xB5: LDA ZPX (R116, R84). -/
  | ldaZpx (p : Byte)
  /-- 0xB9: LDA ABY (R116, R88). -/
  | ldaAby (w : Addr)
  /-- 0xBD: LDA ABX (R116, R87). -/
  | ldaAbx (w : Addr)
  /-- 0xC1: CMP INX (R117, R89). -/
  | cmpInx (p : Byte)
  /-- 0xC5: CMP ZP (R117, R83). -/
  | cmpZp (p : Byte)
  /-- 0xC9: CMP IMM (R117, R82). -/
  | cmpImm (v : Byte)
  /-- 0xCD: CMP ABS (R117, R86). -/
  | cmpAbs (w : Addr)
  /-- 0xD1: CMP INY (R117, R90). -/
  | cmpIny (p : Byte)
  /-- 0xD5: CMP ZPX (R117, R84). -/
  | cmpZpx (p : Byte)
  /-- 0xD9: CMP ABY (R117, R88). -/
  | cmpAby (w : Addr)
  /-- 0xDD: CMP ABX (R117, R87). -/
  | cmpAbx (w : Addr)
  /-- 0xE1: SBC INX (R118, R89). -/
  | sbcInx (p : Byte)
  /-- 0xE5: SBC ZP (R118, R83). -/
  | sbcZp (p : Byte)
  /-- 0xE9: SBC IMM (R118, R82). -/
  | sbcImm (v : Byte)
  /-- 0xED: SBC ABS (R118, R86). -/
  | sbcAbs (w : Addr)
  /-- 0xF1: SBC INY (R118, R90). -/
  | sbcIny (p : Byte)
  /-- 0xF5: SBC ZPX (R118, R84). -/
  | sbcZpx (p : Byte)
  /-- 0xF9: SBC ABY (R118, R88). -/
  | sbcAby (w : Addr)
  /-- 0xFD: SBC ABX (R118, R87). -/
  | sbcAbx (w : Addr)
  -- Category 10 (R64).
  /-- 0x02: unimplemented (R68, R203). -/
  | unimpl02
  /-- 0x06: ASL ZP (R120, R83). -/
  | aslZp (p : Byte)
  /-- 0x0A: ASL ACC (R120, R81). -/
  | aslAcc
  /-- 0x0E: ASL ABS (R120, R86). -/
  | aslAbs (w : Addr)
  /-- 0x12: unimplemented (R68, R203). -/
  | unimpl12
  /-- 0x16: ASL ZPX (R120, R84). -/
  | aslZpx (p : Byte)
  /-- 0x1A: unimplemented (R68, R203). -/
  | unimpl1A
  /-- 0x1E: ASL ABX (R120, R87). -/
  | aslAbx (w : Addr)
  /-- 0x22: unimplemented (R68, R203). -/
  | unimpl22
  /-- 0x26: ROL ZP (R121, R83). -/
  | rolZp (p : Byte)
  /-- 0x2A: ROL ACC (R121, R81). -/
  | rolAcc
  /-- 0x2E: ROL ABS (R121, R86). -/
  | rolAbs (w : Addr)
  /-- 0x32: unimplemented (R68, R203). -/
  | unimpl32
  /-- 0x36: ROL ZPX (R121, R84). -/
  | rolZpx (p : Byte)
  /-- 0x3A: unimplemented (R68, R203). -/
  | unimpl3A
  /-- 0x3E: ROL ABX (R121, R87). -/
  | rolAbx (w : Addr)
  /-- 0x42: unimplemented (R68, R203). -/
  | unimpl42
  /-- 0x46: LSR ZP (R122, R83). -/
  | lsrZp (p : Byte)
  /-- 0x4A: LSR ACC (R122, R81). -/
  | lsrAcc
  /-- 0x4E: LSR ABS (R122, R86). -/
  | lsrAbs (w : Addr)
  /-- 0x52: unimplemented (R68, R203). -/
  | unimpl52
  /-- 0x56: LSR ZPX (R122, R84). -/
  | lsrZpx (p : Byte)
  /-- 0x5A: unimplemented (R68, R203). -/
  | unimpl5A
  /-- 0x5E: LSR ABX (R122, R87). -/
  | lsrAbx (w : Addr)
  /-- 0x62: unimplemented (R68, R203). -/
  | unimpl62
  /-- 0x66: ROR ZP (R123, R83). -/
  | rorZp (p : Byte)
  /-- 0x6A: ROR ACC (R123, R81). -/
  | rorAcc
  /-- 0x6E: ROR ABS (R123, R86). -/
  | rorAbs (w : Addr)
  /-- 0x72: unimplemented (R68, R203). -/
  | unimpl72
  /-- 0x76: ROR ZPX (R123, R84). -/
  | rorZpx (p : Byte)
  /-- 0x7A: unimplemented (R68, R203). -/
  | unimpl7A
  /-- 0x7E: ROR ABX (R123, R87). -/
  | rorAbx (w : Addr)
  /-- 0x82: unimplemented (R68, R203). -/
  | unimpl82
  /-- 0x86: STX ZP (R124, R83). -/
  | stxZp (p : Byte)
  /-- 0x8A: TXA IMP (R128, R81). -/
  | txa
  /-- 0x8E: STX ABS (R124, R86). -/
  | stxAbs (w : Addr)
  /-- 0x92: unimplemented (R68, R203). -/
  | unimpl92
  /-- 0x96: STX ZPY (R124, R85). -/
  | stxZpy (p : Byte)
  /-- 0x9A: TXS IMP (R129, R81). -/
  | txs
  /-- 0x9E: unimplemented (R68, R203). -/
  | unimpl9E
  /-- 0xA2: LDX IMM (R125, R82). -/
  | ldxImm (v : Byte)
  /-- 0xA6: LDX ZP (R125, R83). -/
  | ldxZp (p : Byte)
  /-- 0xAA: TAX IMP (R130, R81). -/
  | tax
  /-- 0xAE: LDX ABS (R125, R86). -/
  | ldxAbs (w : Addr)
  /-- 0xB2: unimplemented (R68, R203). -/
  | unimplB2
  /-- 0xB6: LDX ZPY (R125, R85). -/
  | ldxZpy (p : Byte)
  /-- 0xBA: TSX IMP (R131, R81). -/
  | tsx
  /-- 0xBE: LDX ABY (R125, R88). -/
  | ldxAby (w : Addr)
  /-- 0xC2: unimplemented (R68, R203). -/
  | unimplC2
  /-- 0xC6: DEC ZP (R126, R83). -/
  | decZp (p : Byte)
  /-- 0xCA: DEX IMP (R132, R81). -/
  | dex
  /-- 0xCE: DEC ABS (R126, R86). -/
  | decAbs (w : Addr)
  /-- 0xD2: unimplemented (R68, R203). -/
  | unimplD2
  /-- 0xD6: DEC ZPX (R126, R84). -/
  | decZpx (p : Byte)
  /-- 0xDA: unimplemented (R68, R203). -/
  | unimplDA
  /-- 0xDE: DEC ABX (R126, R87). -/
  | decAbx (w : Addr)
  /-- 0xE2: unimplemented (R68, R203). -/
  | unimplE2
  /-- 0xE6: INC ZP (R127, R83). -/
  | incZp (p : Byte)
  /-- 0xEA: NOP IMP (R133, R81). -/
  | nop
  /-- 0xEE: INC ABS (R127, R86). -/
  | incAbs (w : Addr)
  /-- 0xF2: unimplemented (R68, R203). -/
  | unimplF2
  /-- 0xF6: INC ZPX (R127, R84). -/
  | incZpx (p : Byte)
  /-- 0xFA: unimplemented (R68, R203). -/
  | unimplFA
  /-- 0xFE: INC ABX (R127, R87). -/
  | incAbx (w : Addr)
  -- Category 00 (R65).
  /-- 0x00: BRK IMP (R152, R81). -/
  | brk
  /-- 0x04: unimplemented (R68, R203). -/
  | unimpl04
  /-- 0x08: PHP IMP (R165, R81). -/
  | php
  /-- 0x0C: unimplemented (R68, R203). -/
  | unimpl0C
  /-- 0x10: BPL REL (R141, R93). -/
  | bpl (off : Byte)
  /-- 0x14: unimplemented (R68, R203). -/
  | unimpl14
  /-- 0x18: CLC IMP (R175, R81). -/
  | clc
  /-- 0x1C: unimplemented (R68, R203). -/
  | unimpl1C
  /-- 0x20: JSR ABS (R150, R86). -/
  | jsr (w : Addr)
  /-- 0x24: BIT ZP (R160, R83). -/
  | bitZp (p : Byte)
  /-- 0x28: PLP IMP (R166, R81). -/
  | plp
  /-- 0x2C: BIT ABS (R160, R86). -/
  | bitAbs (w : Addr)
  /-- 0x30: BMI REL (R142, R93). -/
  | bmi (off : Byte)
  /-- 0x34: unimplemented (R68, R203). -/
  | unimpl34
  /-- 0x38: SEC IMP (R176, R81). -/
  | sec
  /-- 0x3C: unimplemented (R68, R203). -/
  | unimpl3C
  /-- 0x40: RTI IMP (R153, R81). -/
  | rti
  /-- 0x44: unimplemented (R68, R203). -/
  | unimpl44
  /-- 0x48: PHA IMP (R167, R81). -/
  | pha
  /-- 0x4C: JMP ABS (R149, R86). -/
  | jmpAbs (w : Addr)
  /-- 0x50: BVC REL (R143, R93). -/
  | bvc (off : Byte)
  /-- 0x54: unimplemented (R68, R203). -/
  | unimpl54
  /-- 0x58: CLI IMP (R177, R81). -/
  | cli
  /-- 0x5C: unimplemented (R68, R203). -/
  | unimpl5C
  /-- 0x60: RTS IMP (R151, R81). -/
  | rts
  /-- 0x64: unimplemented (R68, R203). -/
  | unimpl64
  /-- 0x68: PLA IMP (R168, R81). -/
  | pla
  /-- 0x6C: JMP IND (R149, R91). -/
  | jmpInd (w : Addr)
  /-- 0x70: BVS REL (R144, R93). -/
  | bvs (off : Byte)
  /-- 0x74: unimplemented (R68, R203). -/
  | unimpl74
  /-- 0x78: SEI IMP (R178, R81). -/
  | sei
  /-- 0x7C: unimplemented (R68, R203). -/
  | unimpl7C
  /-- 0x80: unimplemented (R68, R203). -/
  | unimpl80
  /-- 0x84: STY ZP (R161, R83). -/
  | styZp (p : Byte)
  /-- 0x88: DEY IMP (R169, R81). -/
  | dey
  /-- 0x8C: STY ABS (R161, R86). -/
  | styAbs (w : Addr)
  /-- 0x90: BCC REL (R145, R93). -/
  | bcc (off : Byte)
  /-- 0x94: STY ZPX (R161, R84). -/
  | styZpx (p : Byte)
  /-- 0x98: TYA IMP (R173, R81). -/
  | tya
  /-- 0x9C: unimplemented (R68, R203). -/
  | unimpl9C
  /-- 0xA0: LDY IMM (R162, R82). -/
  | ldyImm (v : Byte)
  /-- 0xA4: LDY ZP (R162, R83). -/
  | ldyZp (p : Byte)
  /-- 0xA8: TAY IMP (R170, R81). -/
  | tay
  /-- 0xAC: LDY ABS (R162, R86). -/
  | ldyAbs (w : Addr)
  /-- 0xB0: BCS REL (R146, R93). -/
  | bcs (off : Byte)
  /-- 0xB4: LDY ZPX (R162, R84). -/
  | ldyZpx (p : Byte)
  /-- 0xB8: CLV IMP (R179, R81). -/
  | clv
  /-- 0xBC: LDY ABX (R162, R87). -/
  | ldyAbx (w : Addr)
  /-- 0xC0: CPY IMM (R163, R82). -/
  | cpyImm (v : Byte)
  /-- 0xC4: CPY ZP (R163, R83). -/
  | cpyZp (p : Byte)
  /-- 0xC8: INY IMP (R171, R81). -/
  | iny
  /-- 0xCC: CPY ABS (R163, R86). -/
  | cpyAbs (w : Addr)
  /-- 0xD0: BNE REL (R147, R93). -/
  | bne (off : Byte)
  /-- 0xD4: unimplemented (R68, R203). -/
  | unimplD4
  /-- 0xD8: CLD IMP (R180, R81). -/
  | cld
  /-- 0xDC: unimplemented (R68, R203). -/
  | unimplDC
  /-- 0xE0: CPX IMM (R164, R82). -/
  | cpxImm (v : Byte)
  /-- 0xE4: CPX ZP (R164, R83). -/
  | cpxZp (p : Byte)
  /-- 0xE8: INX IMP (R172, R81). -/
  | inx
  /-- 0xEC: CPX ABS (R164, R86). -/
  | cpxAbs (w : Addr)
  /-- 0xF0: BEQ REL (R148, R93). -/
  | beq (off : Byte)
  /-- 0xF4: unimplemented (R68, R203). -/
  | unimplF4
  /-- 0xF8: SED IMP (R181, R81). -/
  | sed
  /-- 0xFC: unimplemented (R68, R203). -/
  | unimplFC
  -- Category 11: undefined, every byte unimplemented (R62, R68).
  /-- 0x03: unimplemented (R68, R203). -/
  | unimpl03
  /-- 0x07: unimplemented (R68, R203). -/
  | unimpl07
  /-- 0x0B: unimplemented (R68, R203). -/
  | unimpl0B
  /-- 0x0F: unimplemented (R68, R203). -/
  | unimpl0F
  /-- 0x13: unimplemented (R68, R203). -/
  | unimpl13
  /-- 0x17: unimplemented (R68, R203). -/
  | unimpl17
  /-- 0x1B: unimplemented (R68, R203). -/
  | unimpl1B
  /-- 0x1F: unimplemented (R68, R203). -/
  | unimpl1F
  /-- 0x23: unimplemented (R68, R203). -/
  | unimpl23
  /-- 0x27: unimplemented (R68, R203). -/
  | unimpl27
  /-- 0x2B: unimplemented (R68, R203). -/
  | unimpl2B
  /-- 0x2F: unimplemented (R68, R203). -/
  | unimpl2F
  /-- 0x33: unimplemented (R68, R203). -/
  | unimpl33
  /-- 0x37: unimplemented (R68, R203). -/
  | unimpl37
  /-- 0x3B: unimplemented (R68, R203). -/
  | unimpl3B
  /-- 0x3F: unimplemented (R68, R203). -/
  | unimpl3F
  /-- 0x43: unimplemented (R68, R203). -/
  | unimpl43
  /-- 0x47: unimplemented (R68, R203). -/
  | unimpl47
  /-- 0x4B: unimplemented (R68, R203). -/
  | unimpl4B
  /-- 0x4F: unimplemented (R68, R203). -/
  | unimpl4F
  /-- 0x53: unimplemented (R68, R203). -/
  | unimpl53
  /-- 0x57: unimplemented (R68, R203). -/
  | unimpl57
  /-- 0x5B: unimplemented (R68, R203). -/
  | unimpl5B
  /-- 0x5F: unimplemented (R68, R203). -/
  | unimpl5F
  /-- 0x63: unimplemented (R68, R203). -/
  | unimpl63
  /-- 0x67: unimplemented (R68, R203). -/
  | unimpl67
  /-- 0x6B: unimplemented (R68, R203). -/
  | unimpl6B
  /-- 0x6F: unimplemented (R68, R203). -/
  | unimpl6F
  /-- 0x73: unimplemented (R68, R203). -/
  | unimpl73
  /-- 0x77: unimplemented (R68, R203). -/
  | unimpl77
  /-- 0x7B: unimplemented (R68, R203). -/
  | unimpl7B
  /-- 0x7F: unimplemented (R68, R203). -/
  | unimpl7F
  /-- 0x83: unimplemented (R68, R203). -/
  | unimpl83
  /-- 0x87: unimplemented (R68, R203). -/
  | unimpl87
  /-- 0x8B: unimplemented (R68, R203). -/
  | unimpl8B
  /-- 0x8F: unimplemented (R68, R203). -/
  | unimpl8F
  /-- 0x93: unimplemented (R68, R203). -/
  | unimpl93
  /-- 0x97: unimplemented (R68, R203). -/
  | unimpl97
  /-- 0x9B: unimplemented (R68, R203). -/
  | unimpl9B
  /-- 0x9F: unimplemented (R68, R203). -/
  | unimpl9F
  /-- 0xA3: unimplemented (R68, R203). -/
  | unimplA3
  /-- 0xA7: unimplemented (R68, R203). -/
  | unimplA7
  /-- 0xAB: unimplemented (R68, R203). -/
  | unimplAB
  /-- 0xAF: unimplemented (R68, R203). -/
  | unimplAF
  /-- 0xB3: unimplemented (R68, R203). -/
  | unimplB3
  /-- 0xB7: unimplemented (R68, R203). -/
  | unimplB7
  /-- 0xBB: unimplemented (R68, R203). -/
  | unimplBB
  /-- 0xBF: unimplemented (R68, R203). -/
  | unimplBF
  /-- 0xC3: unimplemented (R68, R203). -/
  | unimplC3
  /-- 0xC7: unimplemented (R68, R203). -/
  | unimplC7
  /-- 0xCB: unimplemented (R68, R203). -/
  | unimplCB
  /-- 0xCF: unimplemented (R68, R203). -/
  | unimplCF
  /-- 0xD3: unimplemented (R68, R203). -/
  | unimplD3
  /-- 0xD7: unimplemented (R68, R203). -/
  | unimplD7
  /-- 0xDB: unimplemented (R68, R203). -/
  | unimplDB
  /-- 0xDF: unimplemented (R68, R203). -/
  | unimplDF
  /-- 0xE3: unimplemented (R68, R203). -/
  | unimplE3
  /-- 0xE7: unimplemented (R68, R203). -/
  | unimplE7
  /-- 0xEB: unimplemented (R68, R203). -/
  | unimplEB
  /-- 0xEF: unimplemented (R68, R203). -/
  | unimplEF
  /-- 0xF3: unimplemented (R68, R203). -/
  | unimplF3
  /-- 0xF7: unimplemented (R68, R203). -/
  | unimplF7
  /-- 0xFB: unimplemented (R68, R203). -/
  | unimplFB
  /-- 0xFF: unimplemented (R68, R203). -/
  | unimplFF
  deriving DecidableEq, Repr

/-- The name of the instruction's operation (R63 to R65). -/
def Instr.mnemonic : Instr → Mnemonic
  | .oraInx _ | .oraZp _ | .oraImm _ | .oraAbs _ | .oraIny _ | .oraZpx _ | .oraAby _ | .oraAbx _ => .ora
  | .andInx _ | .andZp _ | .andImm _ | .andAbs _ | .andIny _ | .andZpx _ | .andAby _ | .andAbx _ => .and
  | .eorInx _ | .eorZp _ | .eorImm _ | .eorAbs _ | .eorIny _ | .eorZpx _ | .eorAby _ | .eorAbx _ => .eor
  | .adcInx _ | .adcZp _ | .adcImm _ | .adcAbs _ | .adcIny _ | .adcZpx _ | .adcAby _ | .adcAbx _ => .adc
  | .staInx _ | .staZp _ | .staImm _ | .staAbs _ | .staIny _ | .staZpx _ | .staAby _ | .staAbx _ => .sta
  | .ldaInx _ | .ldaZp _ | .ldaImm _ | .ldaAbs _ | .ldaIny _ | .ldaZpx _ | .ldaAby _ | .ldaAbx _ => .lda
  | .cmpInx _ | .cmpZp _ | .cmpImm _ | .cmpAbs _ | .cmpIny _ | .cmpZpx _ | .cmpAby _ | .cmpAbx _ => .cmp
  | .sbcInx _ | .sbcZp _ | .sbcImm _ | .sbcAbs _ | .sbcIny _ | .sbcZpx _ | .sbcAby _ | .sbcAbx _ => .sbc
  | .unimpl02 | .unimpl12 | .unimpl1A | .unimpl22 | .unimpl32 | .unimpl3A | .unimpl42 | .unimpl52 | .unimpl5A
  | .unimpl62 | .unimpl72 | .unimpl7A | .unimpl82 | .unimpl92 | .unimpl9E | .unimplB2 | .unimplC2 | .unimplD2
  | .unimplDA | .unimplE2 | .unimplF2 | .unimplFA | .unimpl04 | .unimpl0C | .unimpl14 | .unimpl1C | .unimpl34
  | .unimpl3C | .unimpl44 | .unimpl54 | .unimpl5C | .unimpl64 | .unimpl74 | .unimpl7C | .unimpl80 | .unimpl9C
  | .unimplD4 | .unimplDC | .unimplF4 | .unimplFC | .unimpl03 | .unimpl07 | .unimpl0B | .unimpl0F | .unimpl13
  | .unimpl17 | .unimpl1B | .unimpl1F | .unimpl23 | .unimpl27 | .unimpl2B | .unimpl2F | .unimpl33 | .unimpl37
  | .unimpl3B | .unimpl3F | .unimpl43 | .unimpl47 | .unimpl4B | .unimpl4F | .unimpl53 | .unimpl57 | .unimpl5B
  | .unimpl5F | .unimpl63 | .unimpl67 | .unimpl6B | .unimpl6F | .unimpl73 | .unimpl77 | .unimpl7B | .unimpl7F
  | .unimpl83 | .unimpl87 | .unimpl8B | .unimpl8F | .unimpl93 | .unimpl97 | .unimpl9B | .unimpl9F | .unimplA3
  | .unimplA7 | .unimplAB | .unimplAF | .unimplB3 | .unimplB7 | .unimplBB | .unimplBF | .unimplC3 | .unimplC7
  | .unimplCB | .unimplCF | .unimplD3 | .unimplD7 | .unimplDB | .unimplDF | .unimplE3 | .unimplE7 | .unimplEB
  | .unimplEF | .unimplF3 | .unimplF7 | .unimplFB | .unimplFF => .unimplemented
  | .aslZp _ | .aslAcc | .aslAbs _ | .aslZpx _ | .aslAbx _ => .asl
  | .rolZp _ | .rolAcc | .rolAbs _ | .rolZpx _ | .rolAbx _ => .rol
  | .lsrZp _ | .lsrAcc | .lsrAbs _ | .lsrZpx _ | .lsrAbx _ => .lsr
  | .rorZp _ | .rorAcc | .rorAbs _ | .rorZpx _ | .rorAbx _ => .ror
  | .stxZp _ | .stxAbs _ | .stxZpy _ => .stx
  | .txa => .txa
  | .txs => .txs
  | .ldxImm _ | .ldxZp _ | .ldxAbs _ | .ldxZpy _ | .ldxAby _ => .ldx
  | .tax => .tax
  | .tsx => .tsx
  | .decZp _ | .decAbs _ | .decZpx _ | .decAbx _ => .dec
  | .dex => .dex
  | .incZp _ | .incAbs _ | .incZpx _ | .incAbx _ => .inc
  | .nop => .nop
  | .brk => .brk
  | .php => .php
  | .bpl _ => .bpl
  | .clc => .clc
  | .jsr _ => .jsr
  | .bitZp _ | .bitAbs _ => .bit
  | .plp => .plp
  | .bmi _ => .bmi
  | .sec => .sec
  | .rti => .rti
  | .pha => .pha
  | .jmpAbs _ | .jmpInd _ => .jmp
  | .bvc _ => .bvc
  | .cli => .cli
  | .rts => .rts
  | .pla => .pla
  | .bvs _ => .bvs
  | .sei => .sei
  | .styZp _ | .styAbs _ | .styZpx _ => .sty
  | .dey => .dey
  | .bcc _ => .bcc
  | .tya => .tya
  | .ldyImm _ | .ldyZp _ | .ldyAbs _ | .ldyZpx _ | .ldyAbx _ => .ldy
  | .tay => .tay
  | .bcs _ => .bcs
  | .clv => .clv
  | .cpyImm _ | .cpyZp _ | .cpyAbs _ => .cpy
  | .iny => .iny
  | .bne _ => .bne
  | .cld => .cld
  | .cpxImm _ | .cpxZp _ | .cpxAbs _ => .cpx
  | .inx => .inx
  | .beq _ => .beq
  | .sed => .sed

/-- The mode the instruction's cell names (R63 to R65); an unimplemented byte has none (R68). -/
def Instr.mode : Instr → Option Mode
  | .oraInx _ | .andInx _ | .eorInx _ | .adcInx _ | .staInx _ | .ldaInx _ | .cmpInx _ | .sbcInx _ => some .indirectX
  | .oraZp _ | .andZp _ | .eorZp _ | .adcZp _ | .staZp _ | .ldaZp _ | .cmpZp _ | .sbcZp _ | .aslZp _ | .rolZp _
  | .lsrZp _ | .rorZp _ | .stxZp _ | .ldxZp _ | .decZp _ | .incZp _ | .bitZp _ | .styZp _ | .ldyZp _ | .cpyZp _
  | .cpxZp _ => some .zeroPage
  | .oraImm _ | .andImm _ | .eorImm _ | .adcImm _ | .staImm _ | .ldaImm _ | .cmpImm _ | .sbcImm _ | .ldxImm _
  | .ldyImm _ | .cpyImm _ | .cpxImm _ => some .immediate
  | .oraAbs _ | .andAbs _ | .eorAbs _ | .adcAbs _ | .staAbs _ | .ldaAbs _ | .cmpAbs _ | .sbcAbs _ | .aslAbs _
  | .rolAbs _ | .lsrAbs _ | .rorAbs _ | .stxAbs _ | .ldxAbs _ | .decAbs _ | .incAbs _ | .jsr _ | .bitAbs _
  | .jmpAbs _ | .styAbs _ | .ldyAbs _ | .cpyAbs _ | .cpxAbs _ => some .absolute
  | .oraIny _ | .andIny _ | .eorIny _ | .adcIny _ | .staIny _ | .ldaIny _ | .cmpIny _ | .sbcIny _ => some .indirectY
  | .oraZpx _ | .andZpx _ | .eorZpx _ | .adcZpx _ | .staZpx _ | .ldaZpx _ | .cmpZpx _ | .sbcZpx _ | .aslZpx _
  | .rolZpx _ | .lsrZpx _ | .rorZpx _ | .decZpx _ | .incZpx _ | .styZpx _ | .ldyZpx _ => some .zeroPageX
  | .oraAby _ | .andAby _ | .eorAby _ | .adcAby _ | .staAby _ | .ldaAby _ | .cmpAby _ | .sbcAby _ | .ldxAby _ => some .absoluteY
  | .oraAbx _ | .andAbx _ | .eorAbx _ | .adcAbx _ | .staAbx _ | .ldaAbx _ | .cmpAbx _ | .sbcAbx _ | .aslAbx _
  | .rolAbx _ | .lsrAbx _ | .rorAbx _ | .decAbx _ | .incAbx _ | .ldyAbx _ => some .absoluteX
  | .unimpl02 | .unimpl12 | .unimpl1A | .unimpl22 | .unimpl32 | .unimpl3A | .unimpl42 | .unimpl52 | .unimpl5A
  | .unimpl62 | .unimpl72 | .unimpl7A | .unimpl82 | .unimpl92 | .unimpl9E | .unimplB2 | .unimplC2 | .unimplD2
  | .unimplDA | .unimplE2 | .unimplF2 | .unimplFA | .unimpl04 | .unimpl0C | .unimpl14 | .unimpl1C | .unimpl34
  | .unimpl3C | .unimpl44 | .unimpl54 | .unimpl5C | .unimpl64 | .unimpl74 | .unimpl7C | .unimpl80 | .unimpl9C
  | .unimplD4 | .unimplDC | .unimplF4 | .unimplFC | .unimpl03 | .unimpl07 | .unimpl0B | .unimpl0F | .unimpl13
  | .unimpl17 | .unimpl1B | .unimpl1F | .unimpl23 | .unimpl27 | .unimpl2B | .unimpl2F | .unimpl33 | .unimpl37
  | .unimpl3B | .unimpl3F | .unimpl43 | .unimpl47 | .unimpl4B | .unimpl4F | .unimpl53 | .unimpl57 | .unimpl5B
  | .unimpl5F | .unimpl63 | .unimpl67 | .unimpl6B | .unimpl6F | .unimpl73 | .unimpl77 | .unimpl7B | .unimpl7F
  | .unimpl83 | .unimpl87 | .unimpl8B | .unimpl8F | .unimpl93 | .unimpl97 | .unimpl9B | .unimpl9F | .unimplA3
  | .unimplA7 | .unimplAB | .unimplAF | .unimplB3 | .unimplB7 | .unimplBB | .unimplBF | .unimplC3 | .unimplC7
  | .unimplCB | .unimplCF | .unimplD3 | .unimplD7 | .unimplDB | .unimplDF | .unimplE3 | .unimplE7 | .unimplEB
  | .unimplEF | .unimplF3 | .unimplF7 | .unimplFB | .unimplFF => none
  | .aslAcc | .rolAcc | .lsrAcc | .rorAcc | .txa | .txs | .tax | .tsx | .dex | .nop | .brk | .php | .clc | .plp
  | .sec | .rti | .pha | .cli | .rts | .pla | .sei | .dey | .tya | .tay | .clv | .iny | .cld | .inx | .sed => some .impliedAccumulator
  | .stxZpy _ | .ldxZpy _ => some .zeroPageY
  | .bpl _ | .bmi _ | .bvc _ | .bvs _ | .bcc _ | .bcs _ | .bne _ | .beq _ => some .relative
  | .jmpInd _ => some .absoluteIndirect

/-- The operand value the instruction carries. -/
def Instr.payload : Instr → Payload
  | .oraInx b | .oraZp b | .oraImm b | .oraIny b | .oraZpx b | .andInx b | .andZp b | .andImm b | .andIny b
  | .andZpx b | .eorInx b | .eorZp b | .eorImm b | .eorIny b | .eorZpx b | .adcInx b | .adcZp b | .adcImm b
  | .adcIny b | .adcZpx b | .staInx b | .staZp b | .staImm b | .staIny b | .staZpx b | .ldaInx b | .ldaZp b
  | .ldaImm b | .ldaIny b | .ldaZpx b | .cmpInx b | .cmpZp b | .cmpImm b | .cmpIny b | .cmpZpx b | .sbcInx b
  | .sbcZp b | .sbcImm b | .sbcIny b | .sbcZpx b | .aslZp b | .aslZpx b | .rolZp b | .rolZpx b | .lsrZp b | .lsrZpx b
  | .rorZp b | .rorZpx b | .stxZp b | .stxZpy b | .ldxImm b | .ldxZp b | .ldxZpy b | .decZp b | .decZpx b | .incZp b
  | .incZpx b | .bpl b | .bitZp b | .bmi b | .bvc b | .bvs b | .styZp b | .bcc b | .styZpx b | .ldyImm b | .ldyZp b
  | .bcs b | .ldyZpx b | .cpyImm b | .cpyZp b | .bne b | .cpxImm b | .cpxZp b | .beq b => .byte b
  | .oraAbs w | .oraAby w | .oraAbx w | .andAbs w | .andAby w | .andAbx w | .eorAbs w | .eorAby w | .eorAbx w
  | .adcAbs w | .adcAby w | .adcAbx w | .staAbs w | .staAby w | .staAbx w | .ldaAbs w | .ldaAby w | .ldaAbx w
  | .cmpAbs w | .cmpAby w | .cmpAbx w | .sbcAbs w | .sbcAby w | .sbcAbx w | .aslAbs w | .aslAbx w | .rolAbs w
  | .rolAbx w | .lsrAbs w | .lsrAbx w | .rorAbs w | .rorAbx w | .stxAbs w | .ldxAbs w | .ldxAby w | .decAbs w
  | .decAbx w | .incAbs w | .incAbx w | .jsr w | .bitAbs w | .jmpAbs w | .jmpInd w | .styAbs w | .ldyAbs w
  | .ldyAbx w | .cpyAbs w | .cpxAbs w => .word w
  | .unimpl02 | .aslAcc | .unimpl12 | .unimpl1A | .unimpl22 | .rolAcc | .unimpl32 | .unimpl3A | .unimpl42 | .lsrAcc
  | .unimpl52 | .unimpl5A | .unimpl62 | .rorAcc | .unimpl72 | .unimpl7A | .unimpl82 | .txa | .unimpl92 | .txs
  | .unimpl9E | .tax | .unimplB2 | .tsx | .unimplC2 | .dex | .unimplD2 | .unimplDA | .unimplE2 | .nop | .unimplF2
  | .unimplFA | .brk | .unimpl04 | .php | .unimpl0C | .unimpl14 | .clc | .unimpl1C | .plp | .unimpl34 | .sec
  | .unimpl3C | .rti | .unimpl44 | .pha | .unimpl54 | .cli | .unimpl5C | .rts | .unimpl64 | .pla | .unimpl74 | .sei
  | .unimpl7C | .unimpl80 | .dey | .tya | .unimpl9C | .tay | .clv | .iny | .unimplD4 | .cld | .unimplDC | .inx
  | .unimplF4 | .sed | .unimplFC | .unimpl03 | .unimpl07 | .unimpl0B | .unimpl0F | .unimpl13 | .unimpl17 | .unimpl1B
  | .unimpl1F | .unimpl23 | .unimpl27 | .unimpl2B | .unimpl2F | .unimpl33 | .unimpl37 | .unimpl3B | .unimpl3F
  | .unimpl43 | .unimpl47 | .unimpl4B | .unimpl4F | .unimpl53 | .unimpl57 | .unimpl5B | .unimpl5F | .unimpl63
  | .unimpl67 | .unimpl6B | .unimpl6F | .unimpl73 | .unimpl77 | .unimpl7B | .unimpl7F | .unimpl83 | .unimpl87
  | .unimpl8B | .unimpl8F | .unimpl93 | .unimpl97 | .unimpl9B | .unimpl9F | .unimplA3 | .unimplA7 | .unimplAB
  | .unimplAF | .unimplB3 | .unimplB7 | .unimplBB | .unimplBF | .unimplC3 | .unimplC7 | .unimplCB | .unimplCF
  | .unimplD3 | .unimplD7 | .unimplDB | .unimplDF | .unimplE3 | .unimplE7 | .unimplEB | .unimplEF | .unimplF3
  | .unimplF7 | .unimplFB | .unimplFF => .none

/-- The total length in bytes: the opcode byte and the operand bytes of the mode (R60); 1 for an unimplemented byte. -/
def Instr.length (i : Instr) : Nat :=
  match i.mode with
  | none => 1
  | some m => 1 + m.operandLength

end Sys2Proof
end

