-- ==== Sys2Proof/Machine/Operands.lean ====
section
/-! DEFINITION. The addressing_mode_resolver (40_addressing_modes.md). On entry PC is the address of the first operand byte
(R80). The operand bytes were fetched by `fetch` (Step.lean) and stand in the instruction; the resolver moves PC past them. -/

namespace Sys2Proof

/-- The number of operand bytes of an operand's mode (R60). -/
def Operand.length (o : Operand) : Nat := o.mode.operandLength

end Sys2Proof

namespace Sys2Proof.Machine

/-- `EA(mode)`: the effective address, PC moved past the operand bytes (R80 to R90). Zero-page indexed sums are 16-bit sums
with no wrap at 0x100 (R84, R85, R89); the others are modulo 0x10000 (R87, R88, R90). -/
def effectiveAddress (o : Operand) (s : State) : Addr × State :=
  let s1 := s.advancePC o.length
  match o with
  | .immediate _ => (s.pc, s1)
  | .zeroPage p => (zext16 p, s1)
  | .zeroPageX p => (zext16 p + zext16 s.x, s1)
  | .zeroPageY p => (zext16 p + zext16 s.y, s1)
  | .absolute w => (w, s1)
  | .absoluteX w => (w + zext16 s.x, s1)
  | .absoluteY w => (w + zext16 s.y, s1)
  | .indirectX p => readWord (zext16 p + zext16 s.x) s1
  | .indirectY p =>
    let base := readWord (zext16 p) s1
    (base.1 + zext16 s.y, base.2)

/-- `EA(AbsoluteIndirect)` (R91), used by JMP only. -/
def absoluteIndirect (w : Addr) (s : State) : Addr × State := readWord w (s.advancePC 2)

/-- The data operand of a reading instruction: the byte at the effective address (R95). The Immediate byte is the byte at
PC that the fetch has read (R82). -/
def readOperand (o : Operand) (s : State) : Byte × State :=
  let ea := effectiveAddress o s
  match o with
  | .immediate v => (v, ea.2)
  | _ => memRead ea.1 ea.2

/-- `WriteOperand(mode, ea, v)`: a write through Immediate mode reports InvalidWrite and writes nothing (R94). -/
def writeOperand (o : Operand) (ea : Addr) (v : Byte) (s : State) : State :=
  match o with
  | .immediate _ => s.report .invalidWrite
  | _ => memWrite ea v s

/-- A store: the effective address is resolved once, then the byte is written (R92, R94). -/
def storeOperand (o : Operand) (v : Byte) (s : State) : State :=
  let ea := effectiveAddress o s
  writeOperand o ea.1 v ea.2

/-- A read-modify-write (R92): the effective address is resolved once and latched; the byte is read; the result and the
flags are computed; the result is written to the same address. -/
def modifyOperand (o : Operand) (f : Byte → Flags → Byte × Flags) (s : State) : State :=
  let ea := effectiveAddress o s
  let m := memRead ea.1 ea.2
  let r := f m.1 m.2.flags
  memWrite ea.1 r.1 (m.2.setFlags r.2)

/-- `Rel()` and a taken branch: the offset byte is consumed, then PC moves by the signed offset if the branch is taken
(R93, R140). -/
def branchIf (taken : Bool) (off : Byte) (s : State) : State :=
  let s1 := s.advancePC 1
  if taken then s1.setPC (s1.pc + sext16 off) else s1

end Sys2Proof.Machine
end

