-- ==== Sys2Proof/Machine/AccumulatorMemory.lean ====
section
/-! DEFINITION. Category 01: ORA AND EOR ADC STA LDA CMP SBC (42_category01_accumulator_memory.md). Each meaning starts after
the opcode fetch, with PC at the first operand byte. -/

namespace Sys2Proof.Machine

/-- `A <- r; C <- c; V <- v; SetNZ(r)` (R113, R118). -/
def loadSum (q : Sum) (s : State) : State :=
  (s.setA q.r).setFlags (((s.flags.setC q.c).setV q.v).setNZ q.r)

/-- ORA (R110). -/
def oraOperand (o : Operand) (s : State) : State :=
  let m := readOperand o s
  loadA (m.2.a ||| m.1) m.2

/-- AND (R111). -/
def andOperand (o : Operand) (s : State) : State :=
  let m := readOperand o s
  loadA (m.2.a &&& m.1) m.2

/-- EOR (R112). -/
def eorOperand (o : Operand) (s : State) : State :=
  let m := readOperand o s
  loadA (m.2.a ^^^ m.1) m.2

/-- `cin` of ADC: the incoming Carry only when ADC_CARRY_IN is true (R113, D11, log 1). -/
def adcCarry (s : State) : Bool := if s.adcCarryIn then s.flags.c else false

/-- ADC (R113). -/
def adcOperand (o : Operand) (s : State) : State :=
  let m := readOperand o s
  loadSum (addCore m.2.a m.1 (adcCarry m.2)) m.2

/-- STA (R114), and with the Immediate operand the invalid write (R115). -/
def staOperand (o : Operand) (s : State) : State := storeOperand o s.a s

/-- LDA (R116). -/
def ldaOperand (o : Operand) (s : State) : State :=
  let m := readOperand o s
  loadA m.1 m.2

/-- CMP (R117). -/
def cmpOperand (o : Operand) (s : State) : State :=
  let m := readOperand o s
  m.2.setFlags (cmpCoreA m.2.a m.1 m.2.flags)

/-- SBC (R118). -/
def sbcOperand (o : Operand) (s : State) : State :=
  let m := readOperand o s
  loadSum (subCore m.2.a m.1) m.2

/-- 0x01: ORA INX (R110). -/
def execOraInx (p : Byte) (s : State) : Host.Outcome State Fault Refusal := .next (oraOperand (.indirectX p) s)

/-- 0x05: ORA ZP (R110). -/
def execOraZp (p : Byte) (s : State) : Host.Outcome State Fault Refusal := .next (oraOperand (.zeroPage p) s)

/-- 0x09: ORA IMM (R110). -/
def execOraImm (v : Byte) (s : State) : Host.Outcome State Fault Refusal := .next (oraOperand (.immediate v) s)

/-- 0x0D: ORA ABS (R110). -/
def execOraAbs (w : Addr) (s : State) : Host.Outcome State Fault Refusal := .next (oraOperand (.absolute w) s)

/-- 0x11: ORA INY (R110). -/
def execOraIny (p : Byte) (s : State) : Host.Outcome State Fault Refusal := .next (oraOperand (.indirectY p) s)

/-- 0x15: ORA ZPX (R110). -/
def execOraZpx (p : Byte) (s : State) : Host.Outcome State Fault Refusal := .next (oraOperand (.zeroPageX p) s)

/-- 0x19: ORA ABY (R110). -/
def execOraAby (w : Addr) (s : State) : Host.Outcome State Fault Refusal := .next (oraOperand (.absoluteY w) s)

/-- 0x1D: ORA ABX (R110). -/
def execOraAbx (w : Addr) (s : State) : Host.Outcome State Fault Refusal := .next (oraOperand (.absoluteX w) s)

/-- 0x21: AND INX (R111). -/
def execAndInx (p : Byte) (s : State) : Host.Outcome State Fault Refusal := .next (andOperand (.indirectX p) s)

/-- 0x25: AND ZP (R111). -/
def execAndZp (p : Byte) (s : State) : Host.Outcome State Fault Refusal := .next (andOperand (.zeroPage p) s)

/-- 0x29: AND IMM (R111). -/
def execAndImm (v : Byte) (s : State) : Host.Outcome State Fault Refusal := .next (andOperand (.immediate v) s)

/-- 0x2D: AND ABS (R111). -/
def execAndAbs (w : Addr) (s : State) : Host.Outcome State Fault Refusal := .next (andOperand (.absolute w) s)

/-- 0x31: AND INY (R111). -/
def execAndIny (p : Byte) (s : State) : Host.Outcome State Fault Refusal := .next (andOperand (.indirectY p) s)

/-- 0x35: AND ZPX (R111). -/
def execAndZpx (p : Byte) (s : State) : Host.Outcome State Fault Refusal := .next (andOperand (.zeroPageX p) s)

/-- 0x39: AND ABY (R111). -/
def execAndAby (w : Addr) (s : State) : Host.Outcome State Fault Refusal := .next (andOperand (.absoluteY w) s)

/-- 0x3D: AND ABX (R111). -/
def execAndAbx (w : Addr) (s : State) : Host.Outcome State Fault Refusal := .next (andOperand (.absoluteX w) s)

/-- 0x41: EOR INX (R112). -/
def execEorInx (p : Byte) (s : State) : Host.Outcome State Fault Refusal := .next (eorOperand (.indirectX p) s)

/-- 0x45: EOR ZP (R112). -/
def execEorZp (p : Byte) (s : State) : Host.Outcome State Fault Refusal := .next (eorOperand (.zeroPage p) s)

/-- 0x49: EOR IMM (R112). -/
def execEorImm (v : Byte) (s : State) : Host.Outcome State Fault Refusal := .next (eorOperand (.immediate v) s)

/-- 0x4D: EOR ABS (R112). -/
def execEorAbs (w : Addr) (s : State) : Host.Outcome State Fault Refusal := .next (eorOperand (.absolute w) s)

/-- 0x51: EOR INY (R112). -/
def execEorIny (p : Byte) (s : State) : Host.Outcome State Fault Refusal := .next (eorOperand (.indirectY p) s)

/-- 0x55: EOR ZPX (R112). -/
def execEorZpx (p : Byte) (s : State) : Host.Outcome State Fault Refusal := .next (eorOperand (.zeroPageX p) s)

/-- 0x59: EOR ABY (R112). -/
def execEorAby (w : Addr) (s : State) : Host.Outcome State Fault Refusal := .next (eorOperand (.absoluteY w) s)

/-- 0x5D: EOR ABX (R112). -/
def execEorAbx (w : Addr) (s : State) : Host.Outcome State Fault Refusal := .next (eorOperand (.absoluteX w) s)

/-- 0x61: ADC INX (R113). -/
def execAdcInx (p : Byte) (s : State) : Host.Outcome State Fault Refusal := .next (adcOperand (.indirectX p) s)

/-- 0x65: ADC ZP (R113). -/
def execAdcZp (p : Byte) (s : State) : Host.Outcome State Fault Refusal := .next (adcOperand (.zeroPage p) s)

/-- 0x69: ADC IMM (R113). -/
def execAdcImm (v : Byte) (s : State) : Host.Outcome State Fault Refusal := .next (adcOperand (.immediate v) s)

/-- 0x6D: ADC ABS (R113). -/
def execAdcAbs (w : Addr) (s : State) : Host.Outcome State Fault Refusal := .next (adcOperand (.absolute w) s)

/-- 0x71: ADC INY (R113). -/
def execAdcIny (p : Byte) (s : State) : Host.Outcome State Fault Refusal := .next (adcOperand (.indirectY p) s)

/-- 0x75: ADC ZPX (R113). -/
def execAdcZpx (p : Byte) (s : State) : Host.Outcome State Fault Refusal := .next (adcOperand (.zeroPageX p) s)

/-- 0x79: ADC ABY (R113). -/
def execAdcAby (w : Addr) (s : State) : Host.Outcome State Fault Refusal := .next (adcOperand (.absoluteY w) s)

/-- 0x7D: ADC ABX (R113). -/
def execAdcAbx (w : Addr) (s : State) : Host.Outcome State Fault Refusal := .next (adcOperand (.absoluteX w) s)

/-- 0x81: STA INX (R114). -/
def execStaInx (p : Byte) (s : State) : Host.Outcome State Fault Refusal := .next (staOperand (.indirectX p) s)

/-- 0x85: STA ZP (R114). -/
def execStaZp (p : Byte) (s : State) : Host.Outcome State Fault Refusal := .next (staOperand (.zeroPage p) s)

/-- 0x89: STA IMM, the invalid write (R115): the operand byte is consumed, nothing is written. -/
def execStaImm (v : Byte) (s : State) : Host.Outcome State Fault Refusal := .next (staOperand (.immediate v) s)

/-- 0x8D: STA ABS (R114). -/
def execStaAbs (w : Addr) (s : State) : Host.Outcome State Fault Refusal := .next (staOperand (.absolute w) s)

/-- 0x91: STA INY (R114). -/
def execStaIny (p : Byte) (s : State) : Host.Outcome State Fault Refusal := .next (staOperand (.indirectY p) s)

/-- 0x95: STA ZPX (R114). -/
def execStaZpx (p : Byte) (s : State) : Host.Outcome State Fault Refusal := .next (staOperand (.zeroPageX p) s)

/-- 0x99: STA ABY (R114). -/
def execStaAby (w : Addr) (s : State) : Host.Outcome State Fault Refusal := .next (staOperand (.absoluteY w) s)

/-- 0x9D: STA ABX (R114). -/
def execStaAbx (w : Addr) (s : State) : Host.Outcome State Fault Refusal := .next (staOperand (.absoluteX w) s)

/-- 0xA1: LDA INX (R116). -/
def execLdaInx (p : Byte) (s : State) : Host.Outcome State Fault Refusal := .next (ldaOperand (.indirectX p) s)

/-- 0xA5: LDA ZP (R116). -/
def execLdaZp (p : Byte) (s : State) : Host.Outcome State Fault Refusal := .next (ldaOperand (.zeroPage p) s)

/-- 0xA9: LDA IMM (R116). -/
def execLdaImm (v : Byte) (s : State) : Host.Outcome State Fault Refusal := .next (ldaOperand (.immediate v) s)

/-- 0xAD: LDA ABS (R116). -/
def execLdaAbs (w : Addr) (s : State) : Host.Outcome State Fault Refusal := .next (ldaOperand (.absolute w) s)

/-- 0xB1: LDA INY (R116). -/
def execLdaIny (p : Byte) (s : State) : Host.Outcome State Fault Refusal := .next (ldaOperand (.indirectY p) s)

/-- 0xB5: LDA ZPX (R116). -/
def execLdaZpx (p : Byte) (s : State) : Host.Outcome State Fault Refusal := .next (ldaOperand (.zeroPageX p) s)

/-- 0xB9: LDA ABY (R116). -/
def execLdaAby (w : Addr) (s : State) : Host.Outcome State Fault Refusal := .next (ldaOperand (.absoluteY w) s)

/-- 0xBD: LDA ABX (R116). -/
def execLdaAbx (w : Addr) (s : State) : Host.Outcome State Fault Refusal := .next (ldaOperand (.absoluteX w) s)

/-- 0xC1: CMP INX (R117). -/
def execCmpInx (p : Byte) (s : State) : Host.Outcome State Fault Refusal := .next (cmpOperand (.indirectX p) s)

/-- 0xC5: CMP ZP (R117). -/
def execCmpZp (p : Byte) (s : State) : Host.Outcome State Fault Refusal := .next (cmpOperand (.zeroPage p) s)

/-- 0xC9: CMP IMM (R117). -/
def execCmpImm (v : Byte) (s : State) : Host.Outcome State Fault Refusal := .next (cmpOperand (.immediate v) s)

/-- 0xCD: CMP ABS (R117). -/
def execCmpAbs (w : Addr) (s : State) : Host.Outcome State Fault Refusal := .next (cmpOperand (.absolute w) s)

/-- 0xD1: CMP INY (R117). -/
def execCmpIny (p : Byte) (s : State) : Host.Outcome State Fault Refusal := .next (cmpOperand (.indirectY p) s)

/-- 0xD5: CMP ZPX (R117). -/
def execCmpZpx (p : Byte) (s : State) : Host.Outcome State Fault Refusal := .next (cmpOperand (.zeroPageX p) s)

/-- 0xD9: CMP ABY (R117). -/
def execCmpAby (w : Addr) (s : State) : Host.Outcome State Fault Refusal := .next (cmpOperand (.absoluteY w) s)

/-- 0xDD: CMP ABX (R117). -/
def execCmpAbx (w : Addr) (s : State) : Host.Outcome State Fault Refusal := .next (cmpOperand (.absoluteX w) s)

/-- 0xE1: SBC INX (R118). -/
def execSbcInx (p : Byte) (s : State) : Host.Outcome State Fault Refusal := .next (sbcOperand (.indirectX p) s)

/-- 0xE5: SBC ZP (R118). -/
def execSbcZp (p : Byte) (s : State) : Host.Outcome State Fault Refusal := .next (sbcOperand (.zeroPage p) s)

/-- 0xE9: SBC IMM (R118). -/
def execSbcImm (v : Byte) (s : State) : Host.Outcome State Fault Refusal := .next (sbcOperand (.immediate v) s)

/-- 0xED: SBC ABS (R118). -/
def execSbcAbs (w : Addr) (s : State) : Host.Outcome State Fault Refusal := .next (sbcOperand (.absolute w) s)

/-- 0xF1: SBC INY (R118). -/
def execSbcIny (p : Byte) (s : State) : Host.Outcome State Fault Refusal := .next (sbcOperand (.indirectY p) s)

/-- 0xF5: SBC ZPX (R118). -/
def execSbcZpx (p : Byte) (s : State) : Host.Outcome State Fault Refusal := .next (sbcOperand (.zeroPageX p) s)

/-- 0xF9: SBC ABY (R118). -/
def execSbcAby (w : Addr) (s : State) : Host.Outcome State Fault Refusal := .next (sbcOperand (.absoluteY w) s)

/-- 0xFD: SBC ABX (R118). -/
def execSbcAbx (w : Addr) (s : State) : Host.Outcome State Fault Refusal := .next (sbcOperand (.absoluteX w) s)

end Sys2Proof.Machine
end

