-- ==== Sys2Proof/Machine/ControlFlow.lean ====
section
/-! DEFINITION. Category 00, control transfer: branches, JMP, JSR, RTS, BRK, RTI (44_category00_control_flow.md). Each meaning
starts after the opcode fetch, with PC = opcode address + 1. -/

namespace Sys2Proof.Machine

/-- 0x10: BPL (R141, R140): taken if N = 0. -/
def execBpl (off : Byte) (s : State) : Host.Outcome State Fault Refusal := .next (branchIf (s.flags.n == false) off s)

/-- 0x30: BMI (R142, R140): taken if N = 1. -/
def execBmi (off : Byte) (s : State) : Host.Outcome State Fault Refusal := .next (branchIf (s.flags.n == true) off s)

/-- 0x50: BVC (R143, R140): taken if V = 0. -/
def execBvc (off : Byte) (s : State) : Host.Outcome State Fault Refusal := .next (branchIf (s.flags.v == false) off s)

/-- 0x70: BVS (R144, R140): taken if V = 1. -/
def execBvs (off : Byte) (s : State) : Host.Outcome State Fault Refusal := .next (branchIf (s.flags.v == true) off s)

/-- 0x90: BCC (R145, R140): taken if C = 0. -/
def execBcc (off : Byte) (s : State) : Host.Outcome State Fault Refusal := .next (branchIf (s.flags.c == false) off s)

/-- 0xB0: BCS (R146, R140): taken if C = 1. -/
def execBcs (off : Byte) (s : State) : Host.Outcome State Fault Refusal := .next (branchIf (s.flags.c == true) off s)

/-- 0xD0: BNE (R147, R140): taken if Z = 0. -/
def execBne (off : Byte) (s : State) : Host.Outcome State Fault Refusal := .next (branchIf (s.flags.z == false) off s)

/-- 0xF0: BEQ (R148, R140): taken if Z = 1. -/
def execBeq (off : Byte) (s : State) : Host.Outcome State Fault Refusal := .next (branchIf (s.flags.z == true) off s)

/-- 0x4C: JMP ABS (R149). -/
def execJmpAbs (w : Addr) (s : State) : Host.Outcome State Fault Refusal :=
  let ea := effectiveAddress (.absolute w) s
  .next (ea.2.setPC ea.1)

/-- 0x6C: JMP IND (R149, R91). -/
def execJmpInd (w : Addr) (s : State) : Host.Outcome State Fault Refusal :=
  let ea := absoluteIndirect w s
  .next (ea.2.setPC ea.1)

/-- 0x20: JSR (R150). The target was fetched before the pushes; the pushed word is the address of the last byte of the
JSR, PC + 1 with PC at the first operand byte. -/
def execJsr (w : Addr) (s : State) : Host.Outcome State Fault Refusal :=
  .next ((pushWord (s.pc + 1) s).setPC w)

/-- 0x60: RTS (R151). -/
def execRts (s : State) : Host.Outcome State Fault Refusal :=
  let ret := pullWord s
  .next (ret.2.setPC (ret.1 + 1))

/-- 0x00: BRK (R152, R208): the return address skips the byte after the opcode. -/
def execBrk (s : State) : Host.Outcome State Fault Refusal := .next (enterVector (s.pc + 1) breakVector s)

/-- 0x40: RTI (R153, R209). -/
def execRti (s : State) : Host.Outcome State Fault Refusal := .next (returnFromVector s)

end Sys2Proof.Machine
end

