-- ==== Sys2Proof/Machine/DataStackFlags.lean ====
section
/-! DEFINITION. Category 00, data, stack, register and flag operations: BIT STY LDY CPY CPX, PHP PLP PHA PLA, DEY TAY INY INX
TYA, CLC SEC CLI SEI CLV CLD SED (45_category00_data_stack_flags.md). Each meaning starts after the opcode fetch. -/

namespace Sys2Proof.Machine

/-- The flags of BIT: Z from `A & m`, N and V are bits 7 and 6 of the memory byte (R160). -/
def bitFlags (a m : Byte) (f : Flags) : Flags :=
  { f with z := (a &&& m) == 0, n := m.getLsbD 7, v := m.getLsbD 6 }

/-- BIT (R160). -/
def bitOperand (o : Operand) (s : State) : State :=
  let m := readOperand o s
  m.2.setFlags (bitFlags m.2.a m.1 m.2.flags)

/-- STY (R161). -/
def styOperand (o : Operand) (s : State) : State := storeOperand o s.y s

/-- LDY (R162). -/
def ldyOperand (o : Operand) (s : State) : State :=
  let m := readOperand o s
  loadY m.1 m.2

/-- CPY (R163). -/
def cpyOperand (o : Operand) (s : State) : State :=
  let m := readOperand o s
  m.2.setFlags (cmpCoreXY m.2.y m.1 m.2.flags)

/-- CPX (R164). -/
def cpxOperand (o : Operand) (s : State) : State :=
  let m := readOperand o s
  m.2.setFlags (cmpCoreXY m.2.x m.1 m.2.flags)

/-- 0x24: BIT ZP (R160). -/
def execBitZp (p : Byte) (s : State) : Host.Outcome State Fault Refusal := .next (bitOperand (.zeroPage p) s)

/-- 0x2C: BIT ABS (R160). -/
def execBitAbs (w : Addr) (s : State) : Host.Outcome State Fault Refusal := .next (bitOperand (.absolute w) s)

/-- 0x84: STY ZP (R161). -/
def execStyZp (p : Byte) (s : State) : Host.Outcome State Fault Refusal := .next (styOperand (.zeroPage p) s)

/-- 0x8C: STY ABS (R161). -/
def execStyAbs (w : Addr) (s : State) : Host.Outcome State Fault Refusal := .next (styOperand (.absolute w) s)

/-- 0x94: STY ZPX (R161). -/
def execStyZpx (p : Byte) (s : State) : Host.Outcome State Fault Refusal := .next (styOperand (.zeroPageX p) s)

/-- 0xA0: LDY IMM (R162). -/
def execLdyImm (v : Byte) (s : State) : Host.Outcome State Fault Refusal := .next (ldyOperand (.immediate v) s)

/-- 0xA4: LDY ZP (R162). -/
def execLdyZp (p : Byte) (s : State) : Host.Outcome State Fault Refusal := .next (ldyOperand (.zeroPage p) s)

/-- 0xAC: LDY ABS (R162). -/
def execLdyAbs (w : Addr) (s : State) : Host.Outcome State Fault Refusal := .next (ldyOperand (.absolute w) s)

/-- 0xB4: LDY ZPX (R162). -/
def execLdyZpx (p : Byte) (s : State) : Host.Outcome State Fault Refusal := .next (ldyOperand (.zeroPageX p) s)

/-- 0xBC: LDY ABX (R162). -/
def execLdyAbx (w : Addr) (s : State) : Host.Outcome State Fault Refusal := .next (ldyOperand (.absoluteX w) s)

/-- 0xC0: CPY IMM (R163). -/
def execCpyImm (v : Byte) (s : State) : Host.Outcome State Fault Refusal := .next (cpyOperand (.immediate v) s)

/-- 0xC4: CPY ZP (R163). -/
def execCpyZp (p : Byte) (s : State) : Host.Outcome State Fault Refusal := .next (cpyOperand (.zeroPage p) s)

/-- 0xCC: CPY ABS (R163). -/
def execCpyAbs (w : Addr) (s : State) : Host.Outcome State Fault Refusal := .next (cpyOperand (.absolute w) s)

/-- 0xE0: CPX IMM (R164). -/
def execCpxImm (v : Byte) (s : State) : Host.Outcome State Fault Refusal := .next (cpxOperand (.immediate v) s)

/-- 0xE4: CPX ZP (R164). -/
def execCpxZp (p : Byte) (s : State) : Host.Outcome State Fault Refusal := .next (cpxOperand (.zeroPage p) s)

/-- 0xEC: CPX ABS (R164). -/
def execCpxAbs (w : Addr) (s : State) : Host.Outcome State Fault Refusal := .next (cpxOperand (.absolute w) s)

/-- 0x08: PHP (R165): bit 4 of the pushed byte is the stored B. -/
def execPhp (s : State) : Host.Outcome State Fault Refusal := .next (push s.flags.pack s)

/-- 0x28: PLP (R166). -/
def execPlp (s : State) : Host.Outcome State Fault Refusal := .next (pullFlags s)

/-- 0x48: PHA (R167). -/
def execPha (s : State) : Host.Outcome State Fault Refusal := .next (push s.a s)

/-- 0x68: PLA (R168). -/
def execPla (s : State) : Host.Outcome State Fault Refusal :=
  let m := pull s
  .next (loadA m.1 m.2)

/-- 0x88: DEY (R169). -/
def execDey (s : State) : Host.Outcome State Fault Refusal := .next (loadY (decCore s.y) s)

/-- 0xA8: TAY (R170). -/
def execTay (s : State) : Host.Outcome State Fault Refusal := .next (loadY s.a s)

/-- 0xC8: INY (R171). -/
def execIny (s : State) : Host.Outcome State Fault Refusal := .next (loadY (incCore s.y) s)

/-- 0xE8: INX (R172). -/
def execInx (s : State) : Host.Outcome State Fault Refusal := .next (loadX (incCore s.x) s)

/-- 0x98: TYA (R173). -/
def execTya (s : State) : Host.Outcome State Fault Refusal := .next (loadA s.y s)

/-- 0x18: CLC (R175). -/
def execClc (s : State) : Host.Outcome State Fault Refusal := .next (s.setFlags (s.flags.setC false))

/-- 0x38: SEC (R176). -/
def execSec (s : State) : Host.Outcome State Fault Refusal := .next (s.setFlags (s.flags.setC true))

/-- 0x58: CLI (R177). -/
def execCli (s : State) : Host.Outcome State Fault Refusal := .next (s.setFlags (s.flags.setI false))

/-- 0x78: SEI (R178). -/
def execSei (s : State) : Host.Outcome State Fault Refusal := .next (s.setFlags (s.flags.setI true))

/-- 0xB8: CLV (R179). -/
def execClv (s : State) : Host.Outcome State Fault Refusal := .next (s.setFlags (s.flags.setV false))

/-- 0xD8: CLD (R180). -/
def execCld (s : State) : Host.Outcome State Fault Refusal := .next (s.setFlags (s.flags.setD false))

/-- 0xF8: SED (R181). -/
def execSed (s : State) : Host.Outcome State Fault Refusal := .next (s.setFlags (s.flags.setD true))

end Sys2Proof.Machine
end

