-- ==== Sys2Proof/Machine/ShiftXRegister.lean ====
section
/-! DEFINITION. Category 10: ASL ROL LSR ROR STX LDX DEC INC, TXA TXS TAX TSX DEX NOP (43_category10_shift_xreg.md). Each
meaning starts after the opcode fetch. -/

namespace Sys2Proof.Machine

/-- `C <- c; SetNZ(r)` of a shift or a rotate, with its result (R120 to R123). -/
def shiftResult (q : Shifted) (f : Flags) : Byte × Flags := (q.r, (f.setC q.c).setNZ q.r)

/-- `SetNZ(r)` of an increment or a decrement, with its result (R108). -/
def countResult (r : Byte) (f : Flags) : Byte × Flags := (r, f.setNZ r)

/-- ASL of a byte under the flags (R120). -/
def aslByte (v : Byte) (f : Flags) : Byte × Flags := shiftResult (aslCore v) f

/-- ROL of a byte under the flags: C is the value before the instruction (R121). -/
def rolByte (v : Byte) (f : Flags) : Byte × Flags := shiftResult (rolCore v f.c) f

/-- LSR of a byte under the flags (R122). -/
def lsrByte (v : Byte) (f : Flags) : Byte × Flags := shiftResult (lsrCore v) f

/-- ROR of a byte under the flags: C is the value before the instruction (R123). -/
def rorByte (v : Byte) (f : Flags) : Byte × Flags := shiftResult (rorCore v f.c) f

/-- DEC of a byte under the flags (R126). -/
def decByte (v : Byte) (f : Flags) : Byte × Flags := countResult (decCore v) f

/-- INC of a byte under the flags (R127). -/
def incByte (v : Byte) (f : Flags) : Byte × Flags := countResult (incCore v) f

/-- The accumulator form of a shift or a rotate: the operand and the result are A (R81). -/
def modifyA (f : Byte → Flags → Byte × Flags) (s : State) : State :=
  let r := f s.a s.flags
  (s.setFlags r.2).setA r.1


/-- ASL on A (R120, R81). -/
def aslAccumulator (s : State) : State := modifyA aslByte s

/-- ASL on a memory byte (R120). -/
def aslOperand (o : Operand) (s : State) : State := modifyOperand o aslByte s

/-- ROL on A (R121, R81). -/
def rolAccumulator (s : State) : State := modifyA rolByte s

/-- ROL on a memory byte (R121). -/
def rolOperand (o : Operand) (s : State) : State := modifyOperand o rolByte s

/-- LSR on A (R122, R81). -/
def lsrAccumulator (s : State) : State := modifyA lsrByte s

/-- LSR on a memory byte (R122). -/
def lsrOperand (o : Operand) (s : State) : State := modifyOperand o lsrByte s

/-- ROR on A (R123, R81). -/
def rorAccumulator (s : State) : State := modifyA rorByte s

/-- ROR on a memory byte (R123). -/
def rorOperand (o : Operand) (s : State) : State := modifyOperand o rorByte s

/-- STX (R124). -/
def stxOperand (o : Operand) (s : State) : State := storeOperand o s.x s

/-- LDX (R125). -/
def ldxOperand (o : Operand) (s : State) : State :=
  let m := readOperand o s
  loadX m.1 m.2

/-- DEC (R126). -/
def decOperand (o : Operand) (s : State) : State := modifyOperand o decByte s

/-- INC (R127). -/
def incOperand (o : Operand) (s : State) : State := modifyOperand o incByte s

/-- 0x06: ASL ZP (R120). -/
def execAslZp (p : Byte) (s : State) : Host.Outcome State Fault Refusal := .next (aslOperand (.zeroPage p) s)

/-- 0x0A: ASL ACC (R120). -/
def execAslAcc (s : State) : Host.Outcome State Fault Refusal := .next (aslAccumulator s)

/-- 0x0E: ASL ABS (R120). -/
def execAslAbs (w : Addr) (s : State) : Host.Outcome State Fault Refusal := .next (aslOperand (.absolute w) s)

/-- 0x16: ASL ZPX (R120). -/
def execAslZpx (p : Byte) (s : State) : Host.Outcome State Fault Refusal := .next (aslOperand (.zeroPageX p) s)

/-- 0x1E: ASL ABX (R120). -/
def execAslAbx (w : Addr) (s : State) : Host.Outcome State Fault Refusal := .next (aslOperand (.absoluteX w) s)

/-- 0x26: ROL ZP (R121). -/
def execRolZp (p : Byte) (s : State) : Host.Outcome State Fault Refusal := .next (rolOperand (.zeroPage p) s)

/-- 0x2A: ROL ACC (R121). -/
def execRolAcc (s : State) : Host.Outcome State Fault Refusal := .next (rolAccumulator s)

/-- 0x2E: ROL ABS (R121). -/
def execRolAbs (w : Addr) (s : State) : Host.Outcome State Fault Refusal := .next (rolOperand (.absolute w) s)

/-- 0x36: ROL ZPX (R121). -/
def execRolZpx (p : Byte) (s : State) : Host.Outcome State Fault Refusal := .next (rolOperand (.zeroPageX p) s)

/-- 0x3E: ROL ABX (R121). -/
def execRolAbx (w : Addr) (s : State) : Host.Outcome State Fault Refusal := .next (rolOperand (.absoluteX w) s)

/-- 0x46: LSR ZP (R122). -/
def execLsrZp (p : Byte) (s : State) : Host.Outcome State Fault Refusal := .next (lsrOperand (.zeroPage p) s)

/-- 0x4A: LSR ACC (R122). -/
def execLsrAcc (s : State) : Host.Outcome State Fault Refusal := .next (lsrAccumulator s)

/-- 0x4E: LSR ABS (R122). -/
def execLsrAbs (w : Addr) (s : State) : Host.Outcome State Fault Refusal := .next (lsrOperand (.absolute w) s)

/-- 0x56: LSR ZPX (R122). -/
def execLsrZpx (p : Byte) (s : State) : Host.Outcome State Fault Refusal := .next (lsrOperand (.zeroPageX p) s)

/-- 0x5E: LSR ABX (R122). -/
def execLsrAbx (w : Addr) (s : State) : Host.Outcome State Fault Refusal := .next (lsrOperand (.absoluteX w) s)

/-- 0x66: ROR ZP (R123). -/
def execRorZp (p : Byte) (s : State) : Host.Outcome State Fault Refusal := .next (rorOperand (.zeroPage p) s)

/-- 0x6A: ROR ACC (R123). -/
def execRorAcc (s : State) : Host.Outcome State Fault Refusal := .next (rorAccumulator s)

/-- 0x6E: ROR ABS (R123). -/
def execRorAbs (w : Addr) (s : State) : Host.Outcome State Fault Refusal := .next (rorOperand (.absolute w) s)

/-- 0x76: ROR ZPX (R123). -/
def execRorZpx (p : Byte) (s : State) : Host.Outcome State Fault Refusal := .next (rorOperand (.zeroPageX p) s)

/-- 0x7E: ROR ABX (R123). -/
def execRorAbx (w : Addr) (s : State) : Host.Outcome State Fault Refusal := .next (rorOperand (.absoluteX w) s)

/-- 0x86: STX ZP (R124). -/
def execStxZp (p : Byte) (s : State) : Host.Outcome State Fault Refusal := .next (stxOperand (.zeroPage p) s)

/-- 0x8E: STX ABS (R124). -/
def execStxAbs (w : Addr) (s : State) : Host.Outcome State Fault Refusal := .next (stxOperand (.absolute w) s)

/-- 0x96: STX ZPY (R124). -/
def execStxZpy (p : Byte) (s : State) : Host.Outcome State Fault Refusal := .next (stxOperand (.zeroPageY p) s)

/-- 0xA2: LDX IMM (R125). -/
def execLdxImm (v : Byte) (s : State) : Host.Outcome State Fault Refusal := .next (ldxOperand (.immediate v) s)

/-- 0xA6: LDX ZP (R125). -/
def execLdxZp (p : Byte) (s : State) : Host.Outcome State Fault Refusal := .next (ldxOperand (.zeroPage p) s)

/-- 0xAE: LDX ABS (R125). -/
def execLdxAbs (w : Addr) (s : State) : Host.Outcome State Fault Refusal := .next (ldxOperand (.absolute w) s)

/-- 0xB6: LDX ZPY (R125). -/
def execLdxZpy (p : Byte) (s : State) : Host.Outcome State Fault Refusal := .next (ldxOperand (.zeroPageY p) s)

/-- 0xBE: LDX ABY (R125). -/
def execLdxAby (w : Addr) (s : State) : Host.Outcome State Fault Refusal := .next (ldxOperand (.absoluteY w) s)

/-- 0xC6: DEC ZP (R126). -/
def execDecZp (p : Byte) (s : State) : Host.Outcome State Fault Refusal := .next (decOperand (.zeroPage p) s)

/-- 0xCE: DEC ABS (R126). -/
def execDecAbs (w : Addr) (s : State) : Host.Outcome State Fault Refusal := .next (decOperand (.absolute w) s)

/-- 0xD6: DEC ZPX (R126). -/
def execDecZpx (p : Byte) (s : State) : Host.Outcome State Fault Refusal := .next (decOperand (.zeroPageX p) s)

/-- 0xDE: DEC ABX (R126). -/
def execDecAbx (w : Addr) (s : State) : Host.Outcome State Fault Refusal := .next (decOperand (.absoluteX w) s)

/-- 0xE6: INC ZP (R127). -/
def execIncZp (p : Byte) (s : State) : Host.Outcome State Fault Refusal := .next (incOperand (.zeroPage p) s)

/-- 0xEE: INC ABS (R127). -/
def execIncAbs (w : Addr) (s : State) : Host.Outcome State Fault Refusal := .next (incOperand (.absolute w) s)

/-- 0xF6: INC ZPX (R127). -/
def execIncZpx (p : Byte) (s : State) : Host.Outcome State Fault Refusal := .next (incOperand (.zeroPageX p) s)

/-- 0xFE: INC ABX (R127). -/
def execIncAbx (w : Addr) (s : State) : Host.Outcome State Fault Refusal := .next (incOperand (.absoluteX w) s)

/-- 0x8A: TXA (R128). -/
def execTxa (s : State) : Host.Outcome State Fault Refusal := .next (loadA s.x s)

/-- 0x9A: TXS (R129): no flag is written. -/
def execTxs (s : State) : Host.Outcome State Fault Refusal := .next (s.setSP s.x)

/-- 0xAA: TAX (R130). -/
def execTax (s : State) : Host.Outcome State Fault Refusal := .next (loadX s.a s)

/-- 0xBA: TSX (R131). -/
def execTsx (s : State) : Host.Outcome State Fault Refusal := .next (loadX s.sp s)

/-- 0xCA: DEX (R132). -/
def execDex (s : State) : Host.Outcome State Fault Refusal := .next (loadX (decCore s.x) s)

/-- 0xEA: NOP (R133): only the opcode fetch moves PC. -/
def execNop (s : State) : Host.Outcome State Fault Refusal := .next (s)

end Sys2Proof.Machine
end

