-- ==== Sys2Proof/Machine/Unimplemented.lean ====
section
/-! DEFINITION. The 104 unimplemented opcode bytes (30_encoding.md R68, 60_exceptions.md R203): the step reports
UnimplementedOpcode and does nothing else; PC is past the opcode byte, no operand byte is read. Each byte has a definition of
its own, one line over the shared report. -/

namespace Sys2Proof.Machine

/-- What executing an unimplemented byte does, after the opcode fetch (R203). -/
def unimplementedOpcode (s : State) : Host.Outcome State Fault Refusal := .next (s.report .unimplementedOpcode)

/-- 0x02: category 10, unsupported cell (R68, R203). -/
def execUnimpl02 (s : State) : Host.Outcome State Fault Refusal := unimplementedOpcode s

/-- 0x12: category 10, unsupported cell (R68, R203). -/
def execUnimpl12 (s : State) : Host.Outcome State Fault Refusal := unimplementedOpcode s

/-- 0x1A: category 10, unsupported cell (R68, R203). -/
def execUnimpl1A (s : State) : Host.Outcome State Fault Refusal := unimplementedOpcode s

/-- 0x22: category 10, unsupported cell (R68, R203). -/
def execUnimpl22 (s : State) : Host.Outcome State Fault Refusal := unimplementedOpcode s

/-- 0x32: category 10, unsupported cell (R68, R203). -/
def execUnimpl32 (s : State) : Host.Outcome State Fault Refusal := unimplementedOpcode s

/-- 0x3A: category 10, unsupported cell (R68, R203). -/
def execUnimpl3A (s : State) : Host.Outcome State Fault Refusal := unimplementedOpcode s

/-- 0x42: category 10, unsupported cell (R68, R203). -/
def execUnimpl42 (s : State) : Host.Outcome State Fault Refusal := unimplementedOpcode s

/-- 0x52: category 10, unsupported cell (R68, R203). -/
def execUnimpl52 (s : State) : Host.Outcome State Fault Refusal := unimplementedOpcode s

/-- 0x5A: category 10, unsupported cell (R68, R203). -/
def execUnimpl5A (s : State) : Host.Outcome State Fault Refusal := unimplementedOpcode s

/-- 0x62: category 10, unsupported cell (R68, R203). -/
def execUnimpl62 (s : State) : Host.Outcome State Fault Refusal := unimplementedOpcode s

/-- 0x72: category 10, unsupported cell (R68, R203). -/
def execUnimpl72 (s : State) : Host.Outcome State Fault Refusal := unimplementedOpcode s

/-- 0x7A: category 10, unsupported cell (R68, R203). -/
def execUnimpl7A (s : State) : Host.Outcome State Fault Refusal := unimplementedOpcode s

/-- 0x82: category 10, unsupported cell (R68, R203). -/
def execUnimpl82 (s : State) : Host.Outcome State Fault Refusal := unimplementedOpcode s

/-- 0x92: category 10, unsupported cell (R68, R203). -/
def execUnimpl92 (s : State) : Host.Outcome State Fault Refusal := unimplementedOpcode s

/-- 0x9E: category 10, unsupported cell (R68, R203). -/
def execUnimpl9E (s : State) : Host.Outcome State Fault Refusal := unimplementedOpcode s

/-- 0xB2: category 10, unsupported cell (R68, R203). -/
def execUnimplB2 (s : State) : Host.Outcome State Fault Refusal := unimplementedOpcode s

/-- 0xC2: category 10, unsupported cell (R68, R203). -/
def execUnimplC2 (s : State) : Host.Outcome State Fault Refusal := unimplementedOpcode s

/-- 0xD2: category 10, unsupported cell (R68, R203). -/
def execUnimplD2 (s : State) : Host.Outcome State Fault Refusal := unimplementedOpcode s

/-- 0xDA: category 10, unsupported cell (R68, R203). -/
def execUnimplDA (s : State) : Host.Outcome State Fault Refusal := unimplementedOpcode s

/-- 0xE2: category 10, unsupported cell (R68, R203). -/
def execUnimplE2 (s : State) : Host.Outcome State Fault Refusal := unimplementedOpcode s

/-- 0xF2: category 10, unsupported cell (R68, R203). -/
def execUnimplF2 (s : State) : Host.Outcome State Fault Refusal := unimplementedOpcode s

/-- 0xFA: category 10, unsupported cell (R68, R203). -/
def execUnimplFA (s : State) : Host.Outcome State Fault Refusal := unimplementedOpcode s

/-- 0x04: category 00, unsupported cell (R68, R203). -/
def execUnimpl04 (s : State) : Host.Outcome State Fault Refusal := unimplementedOpcode s

/-- 0x0C: category 00, unsupported cell (R68, R203). -/
def execUnimpl0C (s : State) : Host.Outcome State Fault Refusal := unimplementedOpcode s

/-- 0x14: category 00, unsupported cell (R68, R203). -/
def execUnimpl14 (s : State) : Host.Outcome State Fault Refusal := unimplementedOpcode s

/-- 0x1C: category 00, unsupported cell (R68, R203). -/
def execUnimpl1C (s : State) : Host.Outcome State Fault Refusal := unimplementedOpcode s

/-- 0x34: category 00, unsupported cell (R68, R203). -/
def execUnimpl34 (s : State) : Host.Outcome State Fault Refusal := unimplementedOpcode s

/-- 0x3C: category 00, unsupported cell (R68, R203). -/
def execUnimpl3C (s : State) : Host.Outcome State Fault Refusal := unimplementedOpcode s

/-- 0x44: category 00, unsupported cell (R68, R203). -/
def execUnimpl44 (s : State) : Host.Outcome State Fault Refusal := unimplementedOpcode s

/-- 0x54: category 00, unsupported cell (R68, R203). -/
def execUnimpl54 (s : State) : Host.Outcome State Fault Refusal := unimplementedOpcode s

/-- 0x5C: category 00, unsupported cell (R68, R203). -/
def execUnimpl5C (s : State) : Host.Outcome State Fault Refusal := unimplementedOpcode s

/-- 0x64: category 00, unsupported cell (R68, R203). -/
def execUnimpl64 (s : State) : Host.Outcome State Fault Refusal := unimplementedOpcode s

/-- 0x74: category 00, unsupported cell (R68, R203). -/
def execUnimpl74 (s : State) : Host.Outcome State Fault Refusal := unimplementedOpcode s

/-- 0x7C: category 00, unsupported cell (R68, R203). -/
def execUnimpl7C (s : State) : Host.Outcome State Fault Refusal := unimplementedOpcode s

/-- 0x80: category 00, unsupported cell (R68, R203). -/
def execUnimpl80 (s : State) : Host.Outcome State Fault Refusal := unimplementedOpcode s

/-- 0x9C: category 00, unsupported cell (R68, R203). -/
def execUnimpl9C (s : State) : Host.Outcome State Fault Refusal := unimplementedOpcode s

/-- 0xD4: category 00, unsupported cell (R68, R203). -/
def execUnimplD4 (s : State) : Host.Outcome State Fault Refusal := unimplementedOpcode s

/-- 0xDC: category 00, unsupported cell (R68, R203). -/
def execUnimplDC (s : State) : Host.Outcome State Fault Refusal := unimplementedOpcode s

/-- 0xF4: category 00, unsupported cell (R68, R203). -/
def execUnimplF4 (s : State) : Host.Outcome State Fault Refusal := unimplementedOpcode s

/-- 0xFC: category 00, unsupported cell (R68, R203). -/
def execUnimplFC (s : State) : Host.Outcome State Fault Refusal := unimplementedOpcode s

/-- 0x03: category 11 (R68, R203). -/
def execUnimpl03 (s : State) : Host.Outcome State Fault Refusal := unimplementedOpcode s

/-- 0x07: category 11 (R68, R203). -/
def execUnimpl07 (s : State) : Host.Outcome State Fault Refusal := unimplementedOpcode s

/-- 0x0B: category 11 (R68, R203). -/
def execUnimpl0B (s : State) : Host.Outcome State Fault Refusal := unimplementedOpcode s

/-- 0x0F: category 11 (R68, R203). -/
def execUnimpl0F (s : State) : Host.Outcome State Fault Refusal := unimplementedOpcode s

/-- 0x13: category 11 (R68, R203). -/
def execUnimpl13 (s : State) : Host.Outcome State Fault Refusal := unimplementedOpcode s

/-- 0x17: category 11 (R68, R203). -/
def execUnimpl17 (s : State) : Host.Outcome State Fault Refusal := unimplementedOpcode s

/-- 0x1B: category 11 (R68, R203). -/
def execUnimpl1B (s : State) : Host.Outcome State Fault Refusal := unimplementedOpcode s

/-- 0x1F: category 11 (R68, R203). -/
def execUnimpl1F (s : State) : Host.Outcome State Fault Refusal := unimplementedOpcode s

/-- 0x23: category 11 (R68, R203). -/
def execUnimpl23 (s : State) : Host.Outcome State Fault Refusal := unimplementedOpcode s

/-- 0x27: category 11 (R68, R203). -/
def execUnimpl27 (s : State) : Host.Outcome State Fault Refusal := unimplementedOpcode s

/-- 0x2B: category 11 (R68, R203). -/
def execUnimpl2B (s : State) : Host.Outcome State Fault Refusal := unimplementedOpcode s

/-- 0x2F: category 11 (R68, R203). -/
def execUnimpl2F (s : State) : Host.Outcome State Fault Refusal := unimplementedOpcode s

/-- 0x33: category 11 (R68, R203). -/
def execUnimpl33 (s : State) : Host.Outcome State Fault Refusal := unimplementedOpcode s

/-- 0x37: category 11 (R68, R203). -/
def execUnimpl37 (s : State) : Host.Outcome State Fault Refusal := unimplementedOpcode s

/-- 0x3B: category 11 (R68, R203). -/
def execUnimpl3B (s : State) : Host.Outcome State Fault Refusal := unimplementedOpcode s

/-- 0x3F: category 11 (R68, R203). -/
def execUnimpl3F (s : State) : Host.Outcome State Fault Refusal := unimplementedOpcode s

/-- 0x43: category 11 (R68, R203). -/
def execUnimpl43 (s : State) : Host.Outcome State Fault Refusal := unimplementedOpcode s

/-- 0x47: category 11 (R68, R203). -/
def execUnimpl47 (s : State) : Host.Outcome State Fault Refusal := unimplementedOpcode s

/-- 0x4B: category 11 (R68, R203). -/
def execUnimpl4B (s : State) : Host.Outcome State Fault Refusal := unimplementedOpcode s

/-- 0x4F: category 11 (R68, R203). -/
def execUnimpl4F (s : State) : Host.Outcome State Fault Refusal := unimplementedOpcode s

/-- 0x53: category 11 (R68, R203). -/
def execUnimpl53 (s : State) : Host.Outcome State Fault Refusal := unimplementedOpcode s

/-- 0x57: category 11 (R68, R203). -/
def execUnimpl57 (s : State) : Host.Outcome State Fault Refusal := unimplementedOpcode s

/-- 0x5B: category 11 (R68, R203). -/
def execUnimpl5B (s : State) : Host.Outcome State Fault Refusal := unimplementedOpcode s

/-- 0x5F: category 11 (R68, R203). -/
def execUnimpl5F (s : State) : Host.Outcome State Fault Refusal := unimplementedOpcode s

/-- 0x63: category 11 (R68, R203). -/
def execUnimpl63 (s : State) : Host.Outcome State Fault Refusal := unimplementedOpcode s

/-- 0x67: category 11 (R68, R203). -/
def execUnimpl67 (s : State) : Host.Outcome State Fault Refusal := unimplementedOpcode s

/-- 0x6B: category 11 (R68, R203). -/
def execUnimpl6B (s : State) : Host.Outcome State Fault Refusal := unimplementedOpcode s

/-- 0x6F: category 11 (R68, R203). -/
def execUnimpl6F (s : State) : Host.Outcome State Fault Refusal := unimplementedOpcode s

/-- 0x73: category 11 (R68, R203). -/
def execUnimpl73 (s : State) : Host.Outcome State Fault Refusal := unimplementedOpcode s

/-- 0x77: category 11 (R68, R203). -/
def execUnimpl77 (s : State) : Host.Outcome State Fault Refusal := unimplementedOpcode s

/-- 0x7B: category 11 (R68, R203). -/
def execUnimpl7B (s : State) : Host.Outcome State Fault Refusal := unimplementedOpcode s

/-- 0x7F: category 11 (R68, R203). -/
def execUnimpl7F (s : State) : Host.Outcome State Fault Refusal := unimplementedOpcode s

/-- 0x83: category 11 (R68, R203). -/
def execUnimpl83 (s : State) : Host.Outcome State Fault Refusal := unimplementedOpcode s

/-- 0x87: category 11 (R68, R203). -/
def execUnimpl87 (s : State) : Host.Outcome State Fault Refusal := unimplementedOpcode s

/-- 0x8B: category 11 (R68, R203). -/
def execUnimpl8B (s : State) : Host.Outcome State Fault Refusal := unimplementedOpcode s

/-- 0x8F: category 11 (R68, R203). -/
def execUnimpl8F (s : State) : Host.Outcome State Fault Refusal := unimplementedOpcode s

/-- 0x93: category 11 (R68, R203). -/
def execUnimpl93 (s : State) : Host.Outcome State Fault Refusal := unimplementedOpcode s

/-- 0x97: category 11 (R68, R203). -/
def execUnimpl97 (s : State) : Host.Outcome State Fault Refusal := unimplementedOpcode s

/-- 0x9B: category 11 (R68, R203). -/
def execUnimpl9B (s : State) : Host.Outcome State Fault Refusal := unimplementedOpcode s

/-- 0x9F: category 11 (R68, R203). -/
def execUnimpl9F (s : State) : Host.Outcome State Fault Refusal := unimplementedOpcode s

/-- 0xA3: category 11 (R68, R203). -/
def execUnimplA3 (s : State) : Host.Outcome State Fault Refusal := unimplementedOpcode s

/-- 0xA7: category 11 (R68, R203). -/
def execUnimplA7 (s : State) : Host.Outcome State Fault Refusal := unimplementedOpcode s

/-- 0xAB: category 11 (R68, R203). -/
def execUnimplAB (s : State) : Host.Outcome State Fault Refusal := unimplementedOpcode s

/-- 0xAF: category 11 (R68, R203). -/
def execUnimplAF (s : State) : Host.Outcome State Fault Refusal := unimplementedOpcode s

/-- 0xB3: category 11 (R68, R203). -/
def execUnimplB3 (s : State) : Host.Outcome State Fault Refusal := unimplementedOpcode s

/-- 0xB7: category 11 (R68, R203). -/
def execUnimplB7 (s : State) : Host.Outcome State Fault Refusal := unimplementedOpcode s

/-- 0xBB: category 11 (R68, R203). -/
def execUnimplBB (s : State) : Host.Outcome State Fault Refusal := unimplementedOpcode s

/-- 0xBF: category 11 (R68, R203). -/
def execUnimplBF (s : State) : Host.Outcome State Fault Refusal := unimplementedOpcode s

/-- 0xC3: category 11 (R68, R203). -/
def execUnimplC3 (s : State) : Host.Outcome State Fault Refusal := unimplementedOpcode s

/-- 0xC7: category 11 (R68, R203). -/
def execUnimplC7 (s : State) : Host.Outcome State Fault Refusal := unimplementedOpcode s

/-- 0xCB: category 11 (R68, R203). -/
def execUnimplCB (s : State) : Host.Outcome State Fault Refusal := unimplementedOpcode s

/-- 0xCF: category 11 (R68, R203). -/
def execUnimplCF (s : State) : Host.Outcome State Fault Refusal := unimplementedOpcode s

/-- 0xD3: category 11 (R68, R203). -/
def execUnimplD3 (s : State) : Host.Outcome State Fault Refusal := unimplementedOpcode s

/-- 0xD7: category 11 (R68, R203). -/
def execUnimplD7 (s : State) : Host.Outcome State Fault Refusal := unimplementedOpcode s

/-- 0xDB: category 11 (R68, R203). -/
def execUnimplDB (s : State) : Host.Outcome State Fault Refusal := unimplementedOpcode s

/-- 0xDF: category 11 (R68, R203). -/
def execUnimplDF (s : State) : Host.Outcome State Fault Refusal := unimplementedOpcode s

/-- 0xE3: category 11 (R68, R203). -/
def execUnimplE3 (s : State) : Host.Outcome State Fault Refusal := unimplementedOpcode s

/-- 0xE7: category 11 (R68, R203). -/
def execUnimplE7 (s : State) : Host.Outcome State Fault Refusal := unimplementedOpcode s

/-- 0xEB: category 11 (R68, R203). -/
def execUnimplEB (s : State) : Host.Outcome State Fault Refusal := unimplementedOpcode s

/-- 0xEF: category 11 (R68, R203). -/
def execUnimplEF (s : State) : Host.Outcome State Fault Refusal := unimplementedOpcode s

/-- 0xF3: category 11 (R68, R203). -/
def execUnimplF3 (s : State) : Host.Outcome State Fault Refusal := unimplementedOpcode s

/-- 0xF7: category 11 (R68, R203). -/
def execUnimplF7 (s : State) : Host.Outcome State Fault Refusal := unimplementedOpcode s

/-- 0xFB: category 11 (R68, R203). -/
def execUnimplFB (s : State) : Host.Outcome State Fault Refusal := unimplementedOpcode s

/-- 0xFF: category 11 (R68, R203). -/
def execUnimplFF (s : State) : Host.Outcome State Fault Refusal := unimplementedOpcode s

end Sys2Proof.Machine
end

