-- ==== Sys2Proof/Machine/Dispatch.lean ====
section
/-! DEFINITION. `exec`: the meaning of each instruction, one arm per constructor of `Instr`. -/

namespace Sys2Proof.Machine

def exec (i : Instr) (s : State) : Host.Outcome State Fault Refusal :=
  match i with
  -- Category 01 (R63).
  | .oraInx p => Sys2Proof.Machine.execOraInx p s
  | .oraZp p => Sys2Proof.Machine.execOraZp p s
  | .oraImm v => Sys2Proof.Machine.execOraImm v s
  | .oraAbs w => Sys2Proof.Machine.execOraAbs w s
  | .oraIny p => Sys2Proof.Machine.execOraIny p s
  | .oraZpx p => Sys2Proof.Machine.execOraZpx p s
  | .oraAby w => Sys2Proof.Machine.execOraAby w s
  | .oraAbx w => Sys2Proof.Machine.execOraAbx w s
  | .andInx p => Sys2Proof.Machine.execAndInx p s
  | .andZp p => Sys2Proof.Machine.execAndZp p s
  | .andImm v => Sys2Proof.Machine.execAndImm v s
  | .andAbs w => Sys2Proof.Machine.execAndAbs w s
  | .andIny p => Sys2Proof.Machine.execAndIny p s
  | .andZpx p => Sys2Proof.Machine.execAndZpx p s
  | .andAby w => Sys2Proof.Machine.execAndAby w s
  | .andAbx w => Sys2Proof.Machine.execAndAbx w s
  | .eorInx p => Sys2Proof.Machine.execEorInx p s
  | .eorZp p => Sys2Proof.Machine.execEorZp p s
  | .eorImm v => Sys2Proof.Machine.execEorImm v s
  | .eorAbs w => Sys2Proof.Machine.execEorAbs w s
  | .eorIny p => Sys2Proof.Machine.execEorIny p s
  | .eorZpx p => Sys2Proof.Machine.execEorZpx p s
  | .eorAby w => Sys2Proof.Machine.execEorAby w s
  | .eorAbx w => Sys2Proof.Machine.execEorAbx w s
  | .adcInx p => Sys2Proof.Machine.execAdcInx p s
  | .adcZp p => Sys2Proof.Machine.execAdcZp p s
  | .adcImm v => Sys2Proof.Machine.execAdcImm v s
  | .adcAbs w => Sys2Proof.Machine.execAdcAbs w s
  | .adcIny p => Sys2Proof.Machine.execAdcIny p s
  | .adcZpx p => Sys2Proof.Machine.execAdcZpx p s
  | .adcAby w => Sys2Proof.Machine.execAdcAby w s
  | .adcAbx w => Sys2Proof.Machine.execAdcAbx w s
  | .staInx p => Sys2Proof.Machine.execStaInx p s
  | .staZp p => Sys2Proof.Machine.execStaZp p s
  | .staImm v => Sys2Proof.Machine.execStaImm v s
  | .staAbs w => Sys2Proof.Machine.execStaAbs w s
  | .staIny p => Sys2Proof.Machine.execStaIny p s
  | .staZpx p => Sys2Proof.Machine.execStaZpx p s
  | .staAby w => Sys2Proof.Machine.execStaAby w s
  | .staAbx w => Sys2Proof.Machine.execStaAbx w s
  | .ldaInx p => Sys2Proof.Machine.execLdaInx p s
  | .ldaZp p => Sys2Proof.Machine.execLdaZp p s
  | .ldaImm v => Sys2Proof.Machine.execLdaImm v s
  | .ldaAbs w => Sys2Proof.Machine.execLdaAbs w s
  | .ldaIny p => Sys2Proof.Machine.execLdaIny p s
  | .ldaZpx p => Sys2Proof.Machine.execLdaZpx p s
  | .ldaAby w => Sys2Proof.Machine.execLdaAby w s
  | .ldaAbx w => Sys2Proof.Machine.execLdaAbx w s
  | .cmpInx p => Sys2Proof.Machine.execCmpInx p s
  | .cmpZp p => Sys2Proof.Machine.execCmpZp p s
  | .cmpImm v => Sys2Proof.Machine.execCmpImm v s
  | .cmpAbs w => Sys2Proof.Machine.execCmpAbs w s
  | .cmpIny p => Sys2Proof.Machine.execCmpIny p s
  | .cmpZpx p => Sys2Proof.Machine.execCmpZpx p s
  | .cmpAby w => Sys2Proof.Machine.execCmpAby w s
  | .cmpAbx w => Sys2Proof.Machine.execCmpAbx w s
  | .sbcInx p => Sys2Proof.Machine.execSbcInx p s
  | .sbcZp p => Sys2Proof.Machine.execSbcZp p s
  | .sbcImm v => Sys2Proof.Machine.execSbcImm v s
  | .sbcAbs w => Sys2Proof.Machine.execSbcAbs w s
  | .sbcIny p => Sys2Proof.Machine.execSbcIny p s
  | .sbcZpx p => Sys2Proof.Machine.execSbcZpx p s
  | .sbcAby w => Sys2Proof.Machine.execSbcAby w s
  | .sbcAbx w => Sys2Proof.Machine.execSbcAbx w s
  -- Category 10 (R64).
  | .unimpl02 => Sys2Proof.Machine.execUnimpl02 s
  | .aslZp p => Sys2Proof.Machine.execAslZp p s
  | .aslAcc => Sys2Proof.Machine.execAslAcc s
  | .aslAbs w => Sys2Proof.Machine.execAslAbs w s
  | .unimpl12 => Sys2Proof.Machine.execUnimpl12 s
  | .aslZpx p => Sys2Proof.Machine.execAslZpx p s
  | .unimpl1A => Sys2Proof.Machine.execUnimpl1A s
  | .aslAbx w => Sys2Proof.Machine.execAslAbx w s
  | .unimpl22 => Sys2Proof.Machine.execUnimpl22 s
  | .rolZp p => Sys2Proof.Machine.execRolZp p s
  | .rolAcc => Sys2Proof.Machine.execRolAcc s
  | .rolAbs w => Sys2Proof.Machine.execRolAbs w s
  | .unimpl32 => Sys2Proof.Machine.execUnimpl32 s
  | .rolZpx p => Sys2Proof.Machine.execRolZpx p s
  | .unimpl3A => Sys2Proof.Machine.execUnimpl3A s
  | .rolAbx w => Sys2Proof.Machine.execRolAbx w s
  | .unimpl42 => Sys2Proof.Machine.execUnimpl42 s
  | .lsrZp p => Sys2Proof.Machine.execLsrZp p s
  | .lsrAcc => Sys2Proof.Machine.execLsrAcc s
  | .lsrAbs w => Sys2Proof.Machine.execLsrAbs w s
  | .unimpl52 => Sys2Proof.Machine.execUnimpl52 s
  | .lsrZpx p => Sys2Proof.Machine.execLsrZpx p s
  | .unimpl5A => Sys2Proof.Machine.execUnimpl5A s
  | .lsrAbx w => Sys2Proof.Machine.execLsrAbx w s
  | .unimpl62 => Sys2Proof.Machine.execUnimpl62 s
  | .rorZp p => Sys2Proof.Machine.execRorZp p s
  | .rorAcc => Sys2Proof.Machine.execRorAcc s
  | .rorAbs w => Sys2Proof.Machine.execRorAbs w s
  | .unimpl72 => Sys2Proof.Machine.execUnimpl72 s
  | .rorZpx p => Sys2Proof.Machine.execRorZpx p s
  | .unimpl7A => Sys2Proof.Machine.execUnimpl7A s
  | .rorAbx w => Sys2Proof.Machine.execRorAbx w s
  | .unimpl82 => Sys2Proof.Machine.execUnimpl82 s
  | .stxZp p => Sys2Proof.Machine.execStxZp p s
  | .txa => Sys2Proof.Machine.execTxa s
  | .stxAbs w => Sys2Proof.Machine.execStxAbs w s
  | .unimpl92 => Sys2Proof.Machine.execUnimpl92 s
  | .stxZpy p => Sys2Proof.Machine.execStxZpy p s
  | .txs => Sys2Proof.Machine.execTxs s
  | .unimpl9E => Sys2Proof.Machine.execUnimpl9E s
  | .ldxImm v => Sys2Proof.Machine.execLdxImm v s
  | .ldxZp p => Sys2Proof.Machine.execLdxZp p s
  | .tax => Sys2Proof.Machine.execTax s
  | .ldxAbs w => Sys2Proof.Machine.execLdxAbs w s
  | .unimplB2 => Sys2Proof.Machine.execUnimplB2 s
  | .ldxZpy p => Sys2Proof.Machine.execLdxZpy p s
  | .tsx => Sys2Proof.Machine.execTsx s
  | .ldxAby w => Sys2Proof.Machine.execLdxAby w s
  | .unimplC2 => Sys2Proof.Machine.execUnimplC2 s
  | .decZp p => Sys2Proof.Machine.execDecZp p s
  | .dex => Sys2Proof.Machine.execDex s
  | .decAbs w => Sys2Proof.Machine.execDecAbs w s
  | .unimplD2 => Sys2Proof.Machine.execUnimplD2 s
  | .decZpx p => Sys2Proof.Machine.execDecZpx p s
  | .unimplDA => Sys2Proof.Machine.execUnimplDA s
  | .decAbx w => Sys2Proof.Machine.execDecAbx w s
  | .unimplE2 => Sys2Proof.Machine.execUnimplE2 s
  | .incZp p => Sys2Proof.Machine.execIncZp p s
  | .nop => Sys2Proof.Machine.execNop s
  | .incAbs w => Sys2Proof.Machine.execIncAbs w s
  | .unimplF2 => Sys2Proof.Machine.execUnimplF2 s
  | .incZpx p => Sys2Proof.Machine.execIncZpx p s
  | .unimplFA => Sys2Proof.Machine.execUnimplFA s
  | .incAbx w => Sys2Proof.Machine.execIncAbx w s
  -- Category 00 (R65).
  | .brk => Sys2Proof.Machine.execBrk s
  | .unimpl04 => Sys2Proof.Machine.execUnimpl04 s
  | .php => Sys2Proof.Machine.execPhp s
  | .unimpl0C => Sys2Proof.Machine.execUnimpl0C s
  | .bpl off => Sys2Proof.Machine.execBpl off s
  | .unimpl14 => Sys2Proof.Machine.execUnimpl14 s
  | .clc => Sys2Proof.Machine.execClc s
  | .unimpl1C => Sys2Proof.Machine.execUnimpl1C s
  | .jsr w => Sys2Proof.Machine.execJsr w s
  | .bitZp p => Sys2Proof.Machine.execBitZp p s
  | .plp => Sys2Proof.Machine.execPlp s
  | .bitAbs w => Sys2Proof.Machine.execBitAbs w s
  | .bmi off => Sys2Proof.Machine.execBmi off s
  | .unimpl34 => Sys2Proof.Machine.execUnimpl34 s
  | .sec => Sys2Proof.Machine.execSec s
  | .unimpl3C => Sys2Proof.Machine.execUnimpl3C s
  | .rti => Sys2Proof.Machine.execRti s
  | .unimpl44 => Sys2Proof.Machine.execUnimpl44 s
  | .pha => Sys2Proof.Machine.execPha s
  | .jmpAbs w => Sys2Proof.Machine.execJmpAbs w s
  | .bvc off => Sys2Proof.Machine.execBvc off s
  | .unimpl54 => Sys2Proof.Machine.execUnimpl54 s
  | .cli => Sys2Proof.Machine.execCli s
  | .unimpl5C => Sys2Proof.Machine.execUnimpl5C s
  | .rts => Sys2Proof.Machine.execRts s
  | .unimpl64 => Sys2Proof.Machine.execUnimpl64 s
  | .pla => Sys2Proof.Machine.execPla s
  | .jmpInd w => Sys2Proof.Machine.execJmpInd w s
  | .bvs off => Sys2Proof.Machine.execBvs off s
  | .unimpl74 => Sys2Proof.Machine.execUnimpl74 s
  | .sei => Sys2Proof.Machine.execSei s
  | .unimpl7C => Sys2Proof.Machine.execUnimpl7C s
  | .unimpl80 => Sys2Proof.Machine.execUnimpl80 s
  | .styZp p => Sys2Proof.Machine.execStyZp p s
  | .dey => Sys2Proof.Machine.execDey s
  | .styAbs w => Sys2Proof.Machine.execStyAbs w s
  | .bcc off => Sys2Proof.Machine.execBcc off s
  | .styZpx p => Sys2Proof.Machine.execStyZpx p s
  | .tya => Sys2Proof.Machine.execTya s
  | .unimpl9C => Sys2Proof.Machine.execUnimpl9C s
  | .ldyImm v => Sys2Proof.Machine.execLdyImm v s
  | .ldyZp p => Sys2Proof.Machine.execLdyZp p s
  | .tay => Sys2Proof.Machine.execTay s
  | .ldyAbs w => Sys2Proof.Machine.execLdyAbs w s
  | .bcs off => Sys2Proof.Machine.execBcs off s
  | .ldyZpx p => Sys2Proof.Machine.execLdyZpx p s
  | .clv => Sys2Proof.Machine.execClv s
  | .ldyAbx w => Sys2Proof.Machine.execLdyAbx w s
  | .cpyImm v => Sys2Proof.Machine.execCpyImm v s
  | .cpyZp p => Sys2Proof.Machine.execCpyZp p s
  | .iny => Sys2Proof.Machine.execIny s
  | .cpyAbs w => Sys2Proof.Machine.execCpyAbs w s
  | .bne off => Sys2Proof.Machine.execBne off s
  | .unimplD4 => Sys2Proof.Machine.execUnimplD4 s
  | .cld => Sys2Proof.Machine.execCld s
  | .unimplDC => Sys2Proof.Machine.execUnimplDC s
  | .cpxImm v => Sys2Proof.Machine.execCpxImm v s
  | .cpxZp p => Sys2Proof.Machine.execCpxZp p s
  | .inx => Sys2Proof.Machine.execInx s
  | .cpxAbs w => Sys2Proof.Machine.execCpxAbs w s
  | .beq off => Sys2Proof.Machine.execBeq off s
  | .unimplF4 => Sys2Proof.Machine.execUnimplF4 s
  | .sed => Sys2Proof.Machine.execSed s
  | .unimplFC => Sys2Proof.Machine.execUnimplFC s
  -- Category 11 (R62, R68).
  | .unimpl03 => Sys2Proof.Machine.execUnimpl03 s
  | .unimpl07 => Sys2Proof.Machine.execUnimpl07 s
  | .unimpl0B => Sys2Proof.Machine.execUnimpl0B s
  | .unimpl0F => Sys2Proof.Machine.execUnimpl0F s
  | .unimpl13 => Sys2Proof.Machine.execUnimpl13 s
  | .unimpl17 => Sys2Proof.Machine.execUnimpl17 s
  | .unimpl1B => Sys2Proof.Machine.execUnimpl1B s
  | .unimpl1F => Sys2Proof.Machine.execUnimpl1F s
  | .unimpl23 => Sys2Proof.Machine.execUnimpl23 s
  | .unimpl27 => Sys2Proof.Machine.execUnimpl27 s
  | .unimpl2B => Sys2Proof.Machine.execUnimpl2B s
  | .unimpl2F => Sys2Proof.Machine.execUnimpl2F s
  | .unimpl33 => Sys2Proof.Machine.execUnimpl33 s
  | .unimpl37 => Sys2Proof.Machine.execUnimpl37 s
  | .unimpl3B => Sys2Proof.Machine.execUnimpl3B s
  | .unimpl3F => Sys2Proof.Machine.execUnimpl3F s
  | .unimpl43 => Sys2Proof.Machine.execUnimpl43 s
  | .unimpl47 => Sys2Proof.Machine.execUnimpl47 s
  | .unimpl4B => Sys2Proof.Machine.execUnimpl4B s
  | .unimpl4F => Sys2Proof.Machine.execUnimpl4F s
  | .unimpl53 => Sys2Proof.Machine.execUnimpl53 s
  | .unimpl57 => Sys2Proof.Machine.execUnimpl57 s
  | .unimpl5B => Sys2Proof.Machine.execUnimpl5B s
  | .unimpl5F => Sys2Proof.Machine.execUnimpl5F s
  | .unimpl63 => Sys2Proof.Machine.execUnimpl63 s
  | .unimpl67 => Sys2Proof.Machine.execUnimpl67 s
  | .unimpl6B => Sys2Proof.Machine.execUnimpl6B s
  | .unimpl6F => Sys2Proof.Machine.execUnimpl6F s
  | .unimpl73 => Sys2Proof.Machine.execUnimpl73 s
  | .unimpl77 => Sys2Proof.Machine.execUnimpl77 s
  | .unimpl7B => Sys2Proof.Machine.execUnimpl7B s
  | .unimpl7F => Sys2Proof.Machine.execUnimpl7F s
  | .unimpl83 => Sys2Proof.Machine.execUnimpl83 s
  | .unimpl87 => Sys2Proof.Machine.execUnimpl87 s
  | .unimpl8B => Sys2Proof.Machine.execUnimpl8B s
  | .unimpl8F => Sys2Proof.Machine.execUnimpl8F s
  | .unimpl93 => Sys2Proof.Machine.execUnimpl93 s
  | .unimpl97 => Sys2Proof.Machine.execUnimpl97 s
  | .unimpl9B => Sys2Proof.Machine.execUnimpl9B s
  | .unimpl9F => Sys2Proof.Machine.execUnimpl9F s
  | .unimplA3 => Sys2Proof.Machine.execUnimplA3 s
  | .unimplA7 => Sys2Proof.Machine.execUnimplA7 s
  | .unimplAB => Sys2Proof.Machine.execUnimplAB s
  | .unimplAF => Sys2Proof.Machine.execUnimplAF s
  | .unimplB3 => Sys2Proof.Machine.execUnimplB3 s
  | .unimplB7 => Sys2Proof.Machine.execUnimplB7 s
  | .unimplBB => Sys2Proof.Machine.execUnimplBB s
  | .unimplBF => Sys2Proof.Machine.execUnimplBF s
  | .unimplC3 => Sys2Proof.Machine.execUnimplC3 s
  | .unimplC7 => Sys2Proof.Machine.execUnimplC7 s
  | .unimplCB => Sys2Proof.Machine.execUnimplCB s
  | .unimplCF => Sys2Proof.Machine.execUnimplCF s
  | .unimplD3 => Sys2Proof.Machine.execUnimplD3 s
  | .unimplD7 => Sys2Proof.Machine.execUnimplD7 s
  | .unimplDB => Sys2Proof.Machine.execUnimplDB s
  | .unimplDF => Sys2Proof.Machine.execUnimplDF s
  | .unimplE3 => Sys2Proof.Machine.execUnimplE3 s
  | .unimplE7 => Sys2Proof.Machine.execUnimplE7 s
  | .unimplEB => Sys2Proof.Machine.execUnimplEB s
  | .unimplEF => Sys2Proof.Machine.execUnimplEF s
  | .unimplF3 => Sys2Proof.Machine.execUnimplF3 s
  | .unimplF7 => Sys2Proof.Machine.execUnimplF7 s
  | .unimplFB => Sys2Proof.Machine.execUnimplFB s
  | .unimplFF => Sys2Proof.Machine.execUnimplFF s

end Sys2Proof.Machine
end

