-- ==== Sys2Proof/Decode.lean ====
section
/-! DEFINITION. The opcode_dispatch_table (30_encoding.md R60 to R71), the decoder built on it, and the encoder. The tables
are constants: no instruction, register or mode changes how a byte decodes (R70, R71). -/

namespace Sys2Proof

/-- A cell of a dispatch table: the instruction it names, given the operand its bytes hold (R62, R66). -/
inductive Cell where
  /-- No operand byte. -/
  | noOperand (i : Instr)
  /-- One operand byte. -/
  | byteOperand (f : Byte → Instr)
  /-- Two operand bytes, a little-endian word. -/
  | wordOperand (f : Addr → Instr)

/-- How many operand bytes a cell's instruction has (R60). -/
def Cell.operandLength : Cell → Nat
  | .noOperand _ => 0
  | .byteOperand _ => 1
  | .wordOperand _ => 2

/-- `group = op[7:5]` (R61). -/
def opGroup (op : Byte) : Fin 8 := (op.extractLsb' 5 3).toFin

/-- `sel = op[4:2]` (R61). -/
def opSel (op : Byte) : Fin 8 := (op.extractLsb' 2 3).toFin

/-- `cat = op[1:0]` (R61). -/
def opCat (op : Byte) : Fin 4 := (op.extractLsb' 0 2).toFin

/-- A dispatch table: a row per group, a column per selector. -/
abbrev DispatchTable := Vector (Vector Cell 8) 8

/-- Category `00` (R65). An unsupported cell holds its byte's unimplemented instruction (R68). -/
def category00 : DispatchTable := #v[
  #v[.noOperand .brk, .noOperand .unimpl04, .noOperand .php, .noOperand .unimpl0C, .byteOperand .bpl,
    .noOperand .unimpl14, .noOperand .clc, .noOperand .unimpl1C],
  #v[.wordOperand .jsr, .byteOperand .bitZp, .noOperand .plp, .wordOperand .bitAbs, .byteOperand .bmi,
    .noOperand .unimpl34, .noOperand .sec, .noOperand .unimpl3C],
  #v[.noOperand .rti, .noOperand .unimpl44, .noOperand .pha, .wordOperand .jmpAbs, .byteOperand .bvc,
    .noOperand .unimpl54, .noOperand .cli, .noOperand .unimpl5C],
  #v[.noOperand .rts, .noOperand .unimpl64, .noOperand .pla, .wordOperand .jmpInd, .byteOperand .bvs,
    .noOperand .unimpl74, .noOperand .sei, .noOperand .unimpl7C],
  #v[.noOperand .unimpl80, .byteOperand .styZp, .noOperand .dey, .wordOperand .styAbs, .byteOperand .bcc,
    .byteOperand .styZpx, .noOperand .tya, .noOperand .unimpl9C],
  #v[.byteOperand .ldyImm, .byteOperand .ldyZp, .noOperand .tay, .wordOperand .ldyAbs, .byteOperand .bcs,
    .byteOperand .ldyZpx, .noOperand .clv, .wordOperand .ldyAbx],
  #v[.byteOperand .cpyImm, .byteOperand .cpyZp, .noOperand .iny, .wordOperand .cpyAbs, .byteOperand .bne,
    .noOperand .unimplD4, .noOperand .cld, .noOperand .unimplDC],
  #v[.byteOperand .cpxImm, .byteOperand .cpxZp, .noOperand .inx, .wordOperand .cpxAbs, .byteOperand .beq,
    .noOperand .unimplF4, .noOperand .sed, .noOperand .unimplFC]]

/-- Category `01` (R63); every cell is defined. -/
def category01 : DispatchTable := #v[
  #v[.byteOperand .oraInx, .byteOperand .oraZp, .byteOperand .oraImm, .wordOperand .oraAbs, .byteOperand .oraIny,
    .byteOperand .oraZpx, .wordOperand .oraAby, .wordOperand .oraAbx],
  #v[.byteOperand .andInx, .byteOperand .andZp, .byteOperand .andImm, .wordOperand .andAbs, .byteOperand .andIny,
    .byteOperand .andZpx, .wordOperand .andAby, .wordOperand .andAbx],
  #v[.byteOperand .eorInx, .byteOperand .eorZp, .byteOperand .eorImm, .wordOperand .eorAbs, .byteOperand .eorIny,
    .byteOperand .eorZpx, .wordOperand .eorAby, .wordOperand .eorAbx],
  #v[.byteOperand .adcInx, .byteOperand .adcZp, .byteOperand .adcImm, .wordOperand .adcAbs, .byteOperand .adcIny,
    .byteOperand .adcZpx, .wordOperand .adcAby, .wordOperand .adcAbx],
  #v[.byteOperand .staInx, .byteOperand .staZp, .byteOperand .staImm, .wordOperand .staAbs, .byteOperand .staIny,
    .byteOperand .staZpx, .wordOperand .staAby, .wordOperand .staAbx],
  #v[.byteOperand .ldaInx, .byteOperand .ldaZp, .byteOperand .ldaImm, .wordOperand .ldaAbs, .byteOperand .ldaIny,
    .byteOperand .ldaZpx, .wordOperand .ldaAby, .wordOperand .ldaAbx],
  #v[.byteOperand .cmpInx, .byteOperand .cmpZp, .byteOperand .cmpImm, .wordOperand .cmpAbs, .byteOperand .cmpIny,
    .byteOperand .cmpZpx, .wordOperand .cmpAby, .wordOperand .cmpAbx],
  #v[.byteOperand .sbcInx, .byteOperand .sbcZp, .byteOperand .sbcImm, .wordOperand .sbcAbs, .byteOperand .sbcIny,
    .byteOperand .sbcZpx, .wordOperand .sbcAby, .wordOperand .sbcAbx]]

/-- Category `10` (R64). -/
def category10 : DispatchTable := #v[
  #v[.noOperand .unimpl02, .byteOperand .aslZp, .noOperand .aslAcc, .wordOperand .aslAbs, .noOperand .unimpl12,
    .byteOperand .aslZpx, .noOperand .unimpl1A, .wordOperand .aslAbx],
  #v[.noOperand .unimpl22, .byteOperand .rolZp, .noOperand .rolAcc, .wordOperand .rolAbs, .noOperand .unimpl32,
    .byteOperand .rolZpx, .noOperand .unimpl3A, .wordOperand .rolAbx],
  #v[.noOperand .unimpl42, .byteOperand .lsrZp, .noOperand .lsrAcc, .wordOperand .lsrAbs, .noOperand .unimpl52,
    .byteOperand .lsrZpx, .noOperand .unimpl5A, .wordOperand .lsrAbx],
  #v[.noOperand .unimpl62, .byteOperand .rorZp, .noOperand .rorAcc, .wordOperand .rorAbs, .noOperand .unimpl72,
    .byteOperand .rorZpx, .noOperand .unimpl7A, .wordOperand .rorAbx],
  #v[.noOperand .unimpl82, .byteOperand .stxZp, .noOperand .txa, .wordOperand .stxAbs, .noOperand .unimpl92,
    .byteOperand .stxZpy, .noOperand .txs, .noOperand .unimpl9E],
  #v[.byteOperand .ldxImm, .byteOperand .ldxZp, .noOperand .tax, .wordOperand .ldxAbs, .noOperand .unimplB2,
    .byteOperand .ldxZpy, .noOperand .tsx, .wordOperand .ldxAby],
  #v[.noOperand .unimplC2, .byteOperand .decZp, .noOperand .dex, .wordOperand .decAbs, .noOperand .unimplD2,
    .byteOperand .decZpx, .noOperand .unimplDA, .wordOperand .decAbx],
  #v[.noOperand .unimplE2, .byteOperand .incZp, .noOperand .nop, .wordOperand .incAbs, .noOperand .unimplF2,
    .byteOperand .incZpx, .noOperand .unimplFA, .wordOperand .incAbx]]

/-- Category `11` is not defined: all 64 bytes are unimplemented (R62, R68). -/
def category11 : DispatchTable := #v[
  #v[.noOperand .unimpl03, .noOperand .unimpl07, .noOperand .unimpl0B, .noOperand .unimpl0F, .noOperand .unimpl13,
    .noOperand .unimpl17, .noOperand .unimpl1B, .noOperand .unimpl1F],
  #v[.noOperand .unimpl23, .noOperand .unimpl27, .noOperand .unimpl2B, .noOperand .unimpl2F, .noOperand .unimpl33,
    .noOperand .unimpl37, .noOperand .unimpl3B, .noOperand .unimpl3F],
  #v[.noOperand .unimpl43, .noOperand .unimpl47, .noOperand .unimpl4B, .noOperand .unimpl4F, .noOperand .unimpl53,
    .noOperand .unimpl57, .noOperand .unimpl5B, .noOperand .unimpl5F],
  #v[.noOperand .unimpl63, .noOperand .unimpl67, .noOperand .unimpl6B, .noOperand .unimpl6F, .noOperand .unimpl73,
    .noOperand .unimpl77, .noOperand .unimpl7B, .noOperand .unimpl7F],
  #v[.noOperand .unimpl83, .noOperand .unimpl87, .noOperand .unimpl8B, .noOperand .unimpl8F, .noOperand .unimpl93,
    .noOperand .unimpl97, .noOperand .unimpl9B, .noOperand .unimpl9F],
  #v[.noOperand .unimplA3, .noOperand .unimplA7, .noOperand .unimplAB, .noOperand .unimplAF, .noOperand .unimplB3,
    .noOperand .unimplB7, .noOperand .unimplBB, .noOperand .unimplBF],
  #v[.noOperand .unimplC3, .noOperand .unimplC7, .noOperand .unimplCB, .noOperand .unimplCF, .noOperand .unimplD3,
    .noOperand .unimplD7, .noOperand .unimplDB, .noOperand .unimplDF],
  #v[.noOperand .unimplE3, .noOperand .unimplE7, .noOperand .unimplEB, .noOperand .unimplEF, .noOperand .unimplF3,
    .noOperand .unimplF7, .noOperand .unimplFB, .noOperand .unimplFF]]

/-- The three tables and the undefined category, by `cat` (R62). -/
def dispatchTables : Vector DispatchTable 4 := #v[category00, category01, category10, category11]

/-- `table[op[1:0]][op[7:5]][op[4:2]]` (R224, R62). -/
def cellOf (op : Byte) : Cell := ((dispatchTables.get (opCat op)).get (opGroup op)).get (opSel op)

/-- Why a list of bytes is no instruction. Every opcode byte has a cell (R71), so only missing bytes are left. -/
inductive DecodeError where
  /-- There is no opcode byte. -/
  | missingOpcode
  /-- The bytes end before the instruction's operand does. -/
  | missingOperand
  deriving DecidableEq, Repr

/-- The instruction at the head of a list of bytes, and the bytes after it: the opcode byte alone decides the operation,
the mode and the length (R60, R71); a one-byte operand is the byte after the opcode, a two-byte operand is a word whose
low byte comes first (R66). -/
def decode : List Byte → Except DecodeError (Instr × List Byte)
  | [] => .error .missingOpcode
  | op :: rest =>
    match cellOf op, rest with
    | .noOperand i, rest => .ok (i, rest)
    | .byteOperand f, b :: rest => .ok (f b, rest)
    | .wordOperand f, lo :: hi :: rest => .ok (f (word16 hi lo), rest)
    | .byteOperand _, [] => .error .missingOperand
    | .wordOperand _, [] => .error .missingOperand
    | .wordOperand _, [_] => .error .missingOperand

/-- The opcode byte of each instruction, from the cells of R63, R64, R65 and the list of R68. -/
def Instr.opcode : Instr → Byte
  | .oraInx _ => 0x01 | .oraZp _ => 0x05 | .oraImm _ => 0x09 | .oraAbs _ => 0x0D | .oraIny _ => 0x11
  | .oraZpx _ => 0x15 | .oraAby _ => 0x19 | .oraAbx _ => 0x1D | .andInx _ => 0x21 | .andZp _ => 0x25
  | .andImm _ => 0x29 | .andAbs _ => 0x2D | .andIny _ => 0x31 | .andZpx _ => 0x35 | .andAby _ => 0x39
  | .andAbx _ => 0x3D | .eorInx _ => 0x41 | .eorZp _ => 0x45 | .eorImm _ => 0x49 | .eorAbs _ => 0x4D
  | .eorIny _ => 0x51 | .eorZpx _ => 0x55 | .eorAby _ => 0x59 | .eorAbx _ => 0x5D | .adcInx _ => 0x61
  | .adcZp _ => 0x65 | .adcImm _ => 0x69 | .adcAbs _ => 0x6D | .adcIny _ => 0x71 | .adcZpx _ => 0x75
  | .adcAby _ => 0x79 | .adcAbx _ => 0x7D | .staInx _ => 0x81 | .staZp _ => 0x85 | .staImm _ => 0x89
  | .staAbs _ => 0x8D | .staIny _ => 0x91 | .staZpx _ => 0x95 | .staAby _ => 0x99 | .staAbx _ => 0x9D
  | .ldaInx _ => 0xA1 | .ldaZp _ => 0xA5 | .ldaImm _ => 0xA9 | .ldaAbs _ => 0xAD | .ldaIny _ => 0xB1
  | .ldaZpx _ => 0xB5 | .ldaAby _ => 0xB9 | .ldaAbx _ => 0xBD | .cmpInx _ => 0xC1 | .cmpZp _ => 0xC5
  | .cmpImm _ => 0xC9 | .cmpAbs _ => 0xCD | .cmpIny _ => 0xD1 | .cmpZpx _ => 0xD5 | .cmpAby _ => 0xD9
  | .cmpAbx _ => 0xDD | .sbcInx _ => 0xE1 | .sbcZp _ => 0xE5 | .sbcImm _ => 0xE9 | .sbcAbs _ => 0xED
  | .sbcIny _ => 0xF1 | .sbcZpx _ => 0xF5 | .sbcAby _ => 0xF9 | .sbcAbx _ => 0xFD
  | .unimpl02 => 0x02 | .aslZp _ => 0x06 | .aslAcc => 0x0A | .aslAbs _ => 0x0E | .unimpl12 => 0x12
  | .aslZpx _ => 0x16 | .unimpl1A => 0x1A | .aslAbx _ => 0x1E | .unimpl22 => 0x22 | .rolZp _ => 0x26
  | .rolAcc => 0x2A | .rolAbs _ => 0x2E | .unimpl32 => 0x32 | .rolZpx _ => 0x36 | .unimpl3A => 0x3A
  | .rolAbx _ => 0x3E | .unimpl42 => 0x42 | .lsrZp _ => 0x46 | .lsrAcc => 0x4A | .lsrAbs _ => 0x4E
  | .unimpl52 => 0x52 | .lsrZpx _ => 0x56 | .unimpl5A => 0x5A | .lsrAbx _ => 0x5E | .unimpl62 => 0x62
  | .rorZp _ => 0x66 | .rorAcc => 0x6A | .rorAbs _ => 0x6E | .unimpl72 => 0x72 | .rorZpx _ => 0x76
  | .unimpl7A => 0x7A | .rorAbx _ => 0x7E | .unimpl82 => 0x82 | .stxZp _ => 0x86 | .txa => 0x8A | .stxAbs _ => 0x8E
  | .unimpl92 => 0x92 | .stxZpy _ => 0x96 | .txs => 0x9A | .unimpl9E => 0x9E | .ldxImm _ => 0xA2 | .ldxZp _ => 0xA6
  | .tax => 0xAA | .ldxAbs _ => 0xAE | .unimplB2 => 0xB2 | .ldxZpy _ => 0xB6 | .tsx => 0xBA | .ldxAby _ => 0xBE
  | .unimplC2 => 0xC2 | .decZp _ => 0xC6 | .dex => 0xCA | .decAbs _ => 0xCE | .unimplD2 => 0xD2 | .decZpx _ => 0xD6
  | .unimplDA => 0xDA | .decAbx _ => 0xDE | .unimplE2 => 0xE2 | .incZp _ => 0xE6 | .nop => 0xEA | .incAbs _ => 0xEE
  | .unimplF2 => 0xF2 | .incZpx _ => 0xF6 | .unimplFA => 0xFA | .incAbx _ => 0xFE
  | .brk => 0x00 | .unimpl04 => 0x04 | .php => 0x08 | .unimpl0C => 0x0C | .bpl _ => 0x10 | .unimpl14 => 0x14
  | .clc => 0x18 | .unimpl1C => 0x1C | .jsr _ => 0x20 | .bitZp _ => 0x24 | .plp => 0x28 | .bitAbs _ => 0x2C
  | .bmi _ => 0x30 | .unimpl34 => 0x34 | .sec => 0x38 | .unimpl3C => 0x3C | .rti => 0x40 | .unimpl44 => 0x44
  | .pha => 0x48 | .jmpAbs _ => 0x4C | .bvc _ => 0x50 | .unimpl54 => 0x54 | .cli => 0x58 | .unimpl5C => 0x5C
  | .rts => 0x60 | .unimpl64 => 0x64 | .pla => 0x68 | .jmpInd _ => 0x6C | .bvs _ => 0x70 | .unimpl74 => 0x74
  | .sei => 0x78 | .unimpl7C => 0x7C | .unimpl80 => 0x80 | .styZp _ => 0x84 | .dey => 0x88 | .styAbs _ => 0x8C
  | .bcc _ => 0x90 | .styZpx _ => 0x94 | .tya => 0x98 | .unimpl9C => 0x9C | .ldyImm _ => 0xA0 | .ldyZp _ => 0xA4
  | .tay => 0xA8 | .ldyAbs _ => 0xAC | .bcs _ => 0xB0 | .ldyZpx _ => 0xB4 | .clv => 0xB8 | .ldyAbx _ => 0xBC
  | .cpyImm _ => 0xC0 | .cpyZp _ => 0xC4 | .iny => 0xC8 | .cpyAbs _ => 0xCC | .bne _ => 0xD0 | .unimplD4 => 0xD4
  | .cld => 0xD8 | .unimplDC => 0xDC | .cpxImm _ => 0xE0 | .cpxZp _ => 0xE4 | .inx => 0xE8 | .cpxAbs _ => 0xEC
  | .beq _ => 0xF0 | .unimplF4 => 0xF4 | .sed => 0xF8 | .unimplFC => 0xFC
  | .unimpl03 => 0x03 | .unimpl07 => 0x07 | .unimpl0B => 0x0B | .unimpl0F => 0x0F | .unimpl13 => 0x13
  | .unimpl17 => 0x17 | .unimpl1B => 0x1B | .unimpl1F => 0x1F | .unimpl23 => 0x23 | .unimpl27 => 0x27
  | .unimpl2B => 0x2B | .unimpl2F => 0x2F | .unimpl33 => 0x33 | .unimpl37 => 0x37 | .unimpl3B => 0x3B
  | .unimpl3F => 0x3F | .unimpl43 => 0x43 | .unimpl47 => 0x47 | .unimpl4B => 0x4B | .unimpl4F => 0x4F
  | .unimpl53 => 0x53 | .unimpl57 => 0x57 | .unimpl5B => 0x5B | .unimpl5F => 0x5F | .unimpl63 => 0x63
  | .unimpl67 => 0x67 | .unimpl6B => 0x6B | .unimpl6F => 0x6F | .unimpl73 => 0x73 | .unimpl77 => 0x77
  | .unimpl7B => 0x7B | .unimpl7F => 0x7F | .unimpl83 => 0x83 | .unimpl87 => 0x87 | .unimpl8B => 0x8B
  | .unimpl8F => 0x8F | .unimpl93 => 0x93 | .unimpl97 => 0x97 | .unimpl9B => 0x9B | .unimpl9F => 0x9F
  | .unimplA3 => 0xA3 | .unimplA7 => 0xA7 | .unimplAB => 0xAB | .unimplAF => 0xAF | .unimplB3 => 0xB3
  | .unimplB7 => 0xB7 | .unimplBB => 0xBB | .unimplBF => 0xBF | .unimplC3 => 0xC3 | .unimplC7 => 0xC7
  | .unimplCB => 0xCB | .unimplCF => 0xCF | .unimplD3 => 0xD3 | .unimplD7 => 0xD7 | .unimplDB => 0xDB
  | .unimplDF => 0xDF | .unimplE3 => 0xE3 | .unimplE7 => 0xE7 | .unimplEB => 0xEB | .unimplEF => 0xEF
  | .unimplF3 => 0xF3 | .unimplF7 => 0xF7 | .unimplFB => 0xFB | .unimplFF => 0xFF

/-- The operand bytes at ascending addresses (R66, R67): a word's low byte first. -/
def Payload.bytes : Payload → List Byte
  | .none => []
  | .byte b => [b]
  | .word w => [loByte w, hiByte w]

/-- The bytes of an instruction at ascending addresses (R60, R66). -/
def encode (i : Instr) : List Byte := i.opcode :: i.payload.bytes

/-- Byte `k` of a number whose bit 0 is the least significant bit of the first byte. -/
def byteOfNat (w k : Nat) : Byte := BitVec.ofNat 8 (w >>> (8 * k))

/-- The three bytes (the longest instruction, R60) of an instruction word of `nbits` bits, every bit above them zero. -/
def tableWordBytes (nbits w : Nat) : List Byte :=
  let v := w % 2 ^ nbits
  [byteOfNat v 0, byteOfNat v 1, byteOfNat v 2]

/-- The instruction the decoder reads from a word of spec/opcode_table.json. -/
def decodeTableWord (nbits w : Nat) : Option Instr :=
  match decode (tableWordBytes nbits w) with
  | .ok (i, _) => some i
  | .error _ => none

end Sys2Proof
end

