-- ==== Sys2Proof/Machine/Fetch.lean ====
section
/-! DEFINITION. Fetching an instruction through the Bus (70_reset_and_hazards.md R224; 20_memory.md R51, R53), and placing an
instruction where the next fetch reads it. -/

namespace Sys2Proof.Machine

/-- The instruction at PC: the opcode byte is read and PC moves past it (R224); the cell says how many operand bytes follow;
they are read in ascending address order (R53) and PC is left at the first of them, where the resolver takes it up
(R80). -/
def fetch (s : State) : Instr × State :=
  let op := memRead s.pc s
  let s1 := op.2.advancePC 1
  match cellOf op.1 with
  | .noOperand i => (i, s1)
  | .byteOperand f =>
    let b := memRead s1.pc s1
    (f b.1, b.2)
  | .wordOperand f =>
    let w := readWord s1.pc s1
    (f w.1, w.2)

/-- A byte placed at an address before a run, in RAM_INIT, DUMMY_INIT or PRG (R226, R41, R42); an address that holds no byte
of any of them is left alone. -/
def loadByte (addr : Addr) (v : Byte) (s : State) : State :=
  match regionOf addr, s.mapper with
  | .ram, _ => s.setRAM (s.ram.write (ramIndex addr) v)
  | .ppuStub, _ => s
  | .apuStub, _ => s
  | .cartridge, .dummy => s.setDRAM (s.dram.write addr.toNat v)
  | .cartridge, .nrom =>
    if 0x8000 ≤ addr.toNat then s.setPRG (s.prg.write (prgOffset s.prgExtended addr) v) else s

/-- An address at which `loadByte` places a byte. -/
def holdsByte (s : State) (addr : Addr) : Bool :=
  match regionOf addr, s.mapper with
  | .ram, _ => true
  | .ppuStub, _ => false
  | .apuStub, _ => false
  | .cartridge, .dummy => true
  | .cartridge, .nrom => decide (0x8000 ≤ addr.toNat)

/-- The three bytes from PC on can be placed (R60: three is the longest instruction). -/
def holdsInstruction (s : State) : Bool :=
  holdsByte s s.pc && holdsByte s (s.pc + 1) && holdsByte s (s.pc + 2)

/-- A word of spec/opcode_table.json placed at PC, the engine Running. Where PC points at bytes that no parameter holds (a
stub, the unspecified range of the NROM-like mapper), PC is moved to 0x0000 first (log 8). -/
def placeWord (s : State) (nbits w : Nat) : State :=
  let s1 := (if holdsInstruction s then s else s.setPC 0).setEngine .running
  let bytes := tableWordBytes nbits w
  loadByte (s1.pc + 2) (bytes.getD 2 0) (loadByte (s1.pc + 1) (bytes.getD 1 0) (loadByte s1.pc (bytes.getD 0 0) s1))

end Sys2Proof.Machine
end

