-- ==== Sys2Proof/Machine/Step.lean ====
section
/-! DEFINITION. `step()` (70_reset_and_hazards.md R224): one whole instruction, atomic (00_scope.md R5). -/

namespace Sys2Proof.Machine

/-- `step()` (R224): `cond` starts at OK (R201), the instruction at PC is fetched and executed. A step of an engine that is
not Running is refused (R221). -/
def step (s : State) : Host.Outcome State Fault Refusal :=
  match s.engine with
  | .running =>
    let f := fetch (s.report .ok)
    exec f.1 f.2
  | .reset => .refused .notRunning
  | .constructed => .refused .notRunning

/-- The state with a word of spec/opcode_table.json where `step` fetches its next instruction (log 8). -/
def State.withFetchWord (s : State) (nbits w : Nat) : State := placeWord s nbits w

end Sys2Proof.Machine
end

