-- ==== Sys2Proof/WellFormed.lean ====
section
/-! DEFINITION. The checks on what the model is given: the parameters of a run (00_scope.md R7), and an instruction. -/

namespace Sys2Proof

/-- An instruction carries as many operand bytes as its mode has (R60, R66). The type of `Instr` already gives each
operand the width of its encoding, so no term of `Instr` fails this check. -/
def Instr.wf (i : Instr) : Bool :=
  match i.mode with
  | none => i.payload.length == 0
  | some m => i.payload.length == m.operandLength

/-- R42, D24: with the NROM-like mapper the cartridge's program has 0x4000 or 0x8000 bytes. -/
def Params.cartridgeOk (P : Params) : Bool :=
  match P.mapper with
  | .nrom => P.prgLength == 0x4000 || P.prgLength == 0x8000
  | .dummy => true

/-- PRG holds bytes at the offsets of its length only, in canonical form (R38). -/
def Params.prgOk (P : Params) : Bool := P.prg.wf && Memory.within P.prgLength P.prg

/-- DUMMY_INIT is the contents of an array of 0x10000 cells, in canonical form (R7, D26). -/
def Params.dummyOk (P : Params) : Bool := P.dummyInit.wf && Memory.within 0x10000 P.dummyInit

/-- RAM_INIT is the contents of an array of 0x800 cells, in canonical form (R7, D4). -/
def Params.ramOk (P : Params) : Bool := P.ramInit.wf && Memory.within 0x800 P.ramInit

/-- The arrays given as parameters are arrays of the stated sizes, in canonical form. -/
def Params.arraysOk (P : Params) : Bool := P.prgOk && P.dummyOk && P.ramOk

/-- The parameters of a run `power_on` accepts. -/
def Params.wf (P : Params) : Bool := P.cartridgeOk && P.arraysOk

end Sys2Proof
end

