-- ==== Sys2Proof/Machine/Reset.lean ====
section
/-! DEFINITION. The host's transactions `power_on` and `reset()` (70_reset_and_hazards.md R220 to R223). -/

namespace Sys2Proof.Machine

/-- The state `power_on` constructs from parameters (R22, R220): SP = 0xFD, the flags at their default, A, X, Y and the
arrays as the parameters say, PC unspecified, `reset()` not yet performed. -/
def powerOnState (P : Params) : State where
  a := P.powerOnA
  x := P.powerOnX
  y := P.powerOnY
  sp := 0xFD
  pc := Config.powerOnPC
  flags := Flags.initial
  ram := P.ramInit
  dram := P.dummyInit
  engine := .constructed
  cond := .ok
  mapper := P.mapper
  prg := P.prg
  prgExtended := P.prgLength == 0x8000
  adcCarryIn := P.adcCarryIn
  freeReads := 0

/-- `power_on` (R220): a cartridge of another length than 0x4000 or 0x8000 bytes is refused (R42, D24). -/
def powerOn (P : Params) : Host.Outcome State Fault Refusal :=
  if P.cartridgeOk then
    if P.arraysOk then .next (powerOnState P) else .refused .malformedArrays
  else .refused .cartridgeLength

/-- `reset()` (R222): PC takes the word at the Reset vector, read through the Bus; the flags take `Unpack(0x24)`; the engine
is Running. A, X, Y, SP, RAM and mapper memory are not written (D7), no condition is reported. -/
def resetTransaction (s : State) : State :=
  let s1 := s.setEngine .reset
  let v := readWord resetVector s1
  ((v.2.setPC v.1).setFlags (Flags.unpack 0x24)).setEngine .running

end Sys2Proof.Machine
end

