-- ==== Sys2Proof/Machine/Transactions.lean ====
section
/-! DEFINITION. What the host may do after `power_on` (70_reset_and_hazards.md R225, R227, R228). -/

namespace Sys2Proof.Machine

/-- `step(n)`: n sequential calls of `step()` (R225). -/
def stepTimes : Nat → State → Host.Outcome State Fault Refusal
  | 0, s => .next s
  | n + 1, s =>
    match step s with
    | .next t => stepTimes n t
    | .fault r => .fault r
    | .refused r => .refused r

/-- The host's transactions at an instruction boundary (R228). -/
inductive Transaction where
  /-- `reset()`, at any boundary (R223). -/
  | reset
  /-- `step()`, after a `reset()` (R224). -/
  | step
  /-- `step(n)` (R225). -/
  | steps (n : Nat)
  deriving DecidableEq, Repr

/-- A transaction's effect (R222, R224, R225). -/
def transact (t : Transaction) (s : State) : Host.Outcome State Fault Refusal :=
  match t with
  | .reset => .next (resetTransaction s)
  | .step => step s
  | .steps n => stepTimes n s

/-- A run: `power_on` with the parameters, `reset()`, then n calls of `step()` (R227). -/
def run (P : Params) (n : Nat) : Host.Outcome State Fault Refusal :=
  match powerOn P with
  | .next s => stepTimes n (resetTransaction s)
  | .fault r => .fault r
  | .refused r => .refused r

end Sys2Proof.Machine
end

