-- ==== Sys2Proof/Safety.lean ====
section
/-! DEFINITION. What counts as a safe state and a safe run, in the terms claims use. -/

namespace Sys2Proof.Machine

/-- The three arrays are in canonical form and list only cells of the arrays the spec gives: RAM[0..0x7FF] (R18),
DRAM[0..0xFFFF] (R19), PRG of 0x4000 or 0x8000 bytes (R38, R42; with the dummy mapper there is no cartridge to bound). -/
def State.memoryOk (s : State) : Bool :=
  s.ram.wf && Memory.within 0x800 s.ram && s.dram.wf && Memory.within 0x10000 s.dram && s.prg.wf &&
    (s.mapper == .dummy || Memory.within (if s.prgExtended then 0x8000 else 0x4000) s.prg)

/-- The engine state at an instruction boundary of a run: Running (R20). -/
def State.isRunning (s : State) : Bool := s.engine == .running

/-- The invariant of a run: the arrays are well formed and the engine is Running. -/
def State.Inv (s : State) : Prop := s.memoryOk = true ∧ s.isRunning = true

/-- What every step leaves alone, whatever the instruction: the parameters of the run (R7) and the cartridge (R39, R42). -/
def State.sameParameters (s t : State) : Prop :=
  t.mapper = s.mapper ∧ t.prg = s.prg ∧ t.prgExtended = s.prgExtended ∧ t.adcCarryIn = s.adcCarryIn

/-- Two addresses of one cell: the same address, or two images of one RAM cell (R33). -/
def sameCell (p q : Addr) : Prop :=
  p = q ∨ (regionOf p = .ram ∧ regionOf q = .ram ∧ ramIndex p = ramIndex q)

/-- A state of a run: `power_on` with accepted parameters, `reset()`, then any number of transactions of R228. -/
inductive Reachable (P : Params) : State → Prop where
  | start (s : State) (h : powerOn P = .next s) : Reachable P (resetTransaction s)
  | more (s t : State) (q : Transaction) (hs : Reachable P s) (h : transact q s = .next t) : Reachable P t

end Sys2Proof.Machine
end

