-- ==== Sys2Proof/Certificates/Slice0/Obligations.lean ====
section
/-! DEFINITION. The statements about the model, for the provers. `exec i s` is taken as the spec takes an instruction's rule:
after the opcode fetch, with PC = opcode address + 1 (70_reset_and_hazards.md R224), so `s.pc` below is that address. -/

open Sys2Proof Sys2Proof.Machine

/-- An instruction, its bytes as the spec's row writes them, and its operand. -/
abbrev Sys2Proof.Machine.Form := Instr × List Byte × Operand

/-- The byte a reading instruction takes as its operand (the rules of 40_addressing_modes.md are stated about it below). -/
def Sys2Proof.Machine.operandByte (o : Operand) (s : State) : Byte := (readOperand o s).1

/-- The state once the operand is read: PC past the operand bytes, and one more free read if the byte is unspecified
(R40, log 6); every other field as before. -/
def Sys2Proof.Machine.afterOperand (o : Operand) (s : State) : State :=
  { s with pc := s.pc + BitVec.ofNat 16 o.length, freeReads := (readOperand o s).2.freeReads }

/-- The effective address of an operand. -/
def Sys2Proof.Machine.target (o : Operand) (s : State) : Addr := (effectiveAddress o s).1

/-- The forms have the listed bytes and execute to the listed state. -/
def Sys2Proof.Machine.Executes (forms : List Form) (s : State) (result : Operand → State) : Prop :=
  forms.Forall fun f => encode f.1 = f.2.1 ∧ exec f.1 s = .next (result f.2.2)

/-- A one-byte instruction has the listed byte and executes to the listed state. -/
def Sys2Proof.Machine.ExecutesByte (i : Instr) (op : Byte) (s t : State) : Prop :=
  encode i = [op] ∧ exec i s = .next t

/-- The bytes of n consecutive reads at ascending addresses, and the state after them. -/
def Sys2Proof.Machine.readBytes : Nat → Addr → State → List Byte × State
  | 0, _, s => ([], s)
  | n + 1, p, s =>
    let b := memRead p s
    let r := readBytes n (p + 1) b.2
    (b.1 :: r.1, r.2)

/-- The forms that write a data byte through the Bus, with their operands (R114, R120 to R124, R126, R127, R161). -/
def Sys2Proof.Machine.storingForms (p : Byte) (w : Addr) : List (Instr × Operand) :=
  [(.staInx p, .indirectX p), (.staZp p, .zeroPage p), (.staAbs w, .absolute w), (.staIny p, .indirectY p),
    (.staZpx p, .zeroPageX p), (.staAby w, .absoluteY w), (.staAbx w, .absoluteX w), (.stxZp p, .zeroPage p),
    (.stxAbs w, .absolute w), (.stxZpy p, .zeroPageY p), (.styZp p, .zeroPage p), (.styAbs w, .absolute w),
    (.styZpx p, .zeroPageX p), (.aslZp p, .zeroPage p), (.aslAbs w, .absolute w), (.aslZpx p, .zeroPageX p),
    (.aslAbx w, .absoluteX w), (.rolZp p, .zeroPage p), (.rolAbs w, .absolute w), (.rolZpx p, .zeroPageX p),
    (.rolAbx w, .absoluteX w), (.lsrZp p, .zeroPage p), (.lsrAbs w, .absolute w), (.lsrZpx p, .zeroPageX p),
    (.lsrAbx w, .absoluteX w), (.rorZp p, .zeroPage p), (.rorAbs w, .absolute w), (.rorZpx p, .zeroPageX p),
    (.rorAbx w, .absoluteX w), (.decZp p, .zeroPage p), (.decAbs w, .absolute w), (.decZpx p, .zeroPageX p),
    (.decAbx w, .absoluteX w), (.incZp p, .zeroPage p), (.incAbs w, .absolute w), (.incZpx p, .zeroPageX p),
    (.incAbx w, .absoluteX w)]

/-- The accumulator forms of the shifts and rotates (R81). -/
def Sys2Proof.Machine.accumulatorForms : List Instr := [.aslAcc, .rolAcc, .lsrAcc, .rorAcc]

/-- Decoding the bytes of any instruction gives it back and leaves the bytes after it -/
def Obligations.DecodeOfEncodeIsTheInstruction : Prop :=
  ∀ (i : Instr) (rest : List Byte), decode (encode i ++ rest) = .ok (i, rest)

/-- Bytes that decode to an instruction are the bytes of that instruction and no other -/
def Obligations.EncodeOfDecodeIsTheBytes : Prop :=
  ∀ (bytes : List Byte) (i : Instr) (rest : List Byte), decode bytes = .ok (i, rest) → encode i ++ rest = bytes

/-- The decoder is total: each opcode byte has a cell, which fixes the length -/
def Obligations.EveryOpcodeByteHasAnInstruction : Prop :=
  ∀ (op b1 b2 : Byte) (rest : List Byte), ∃ i : Instr, i.opcode = op ∧
    decode (op :: b1 :: b2 :: rest) = .ok (i, (b1 :: b2 :: rest).drop (i.length - 1)) ∧
    (encode i).length = i.length ∧ (i.mnemonic = .unimplemented → i.length = 1)

/-- One word of each family, written out from the dispatch tables, decodes to its instruction -/
def Obligations.SampleWordsDecodeAsTheTablesSay : Prop :=
  decode [0b101_111_01, 0x34, 0x12] = .ok (.ldaAbx 0x1234, []) ∧
  decode [0b100_010_01, 0x55] = .ok (.staImm 0x55, []) ∧
  decode [0b000_010_10] = .ok (.aslAcc, []) ∧
  decode [0b101_101_10, 0x80] = .ok (.ldxZpy 0x80, []) ∧
  decode [0b110_100_00, 0xFC] = .ok (.bne 0xFC, []) ∧
  decode [0b011_011_00, 0xFF, 0x02] = .ok (.jmpInd 0x02FF, []) ∧
  decode [0b000_000_00] = .ok (.brk, []) ∧
  decode [0b110_000_00, 0x05] = .ok (.cpyImm 0x05, []) ∧
  decode [0b111_110_00] = .ok (.sed, []) ∧
  decode [0b100_000_10, 0xA9] = .ok (.unimpl82, [0xA9]) ∧
  decode [0b111_111_11, 0xA9] = .ok (.unimplFF, [0xA9])

/-- The unimplemented opcode bytes are exactly those R68 lists -/
def Obligations.UnimplementedBytesAreTheListed104 : Prop :=
  ∀ (op b1 b2 : Byte), (∃ i rest, decode [op, b1, b2] = .ok (i, rest) ∧ i.mnemonic = .unimplemented) ↔
    op.toNat % 4 = 3 ∨
    op.toNat ∈ [0x02, 0x12, 0x1A, 0x22, 0x32, 0x3A, 0x42, 0x52, 0x5A, 0x62, 0x72, 0x7A, 0x82, 0x92, 0x9E, 0xB2, 0xC2, 0xD2,
      0xDA, 0xE2, 0xF2, 0xFA] ∨
    op.toNat ∈ [0x04, 0x0C, 0x14, 0x1C, 0x34, 0x3C, 0x44, 0x54, 0x5C, 0x64, 0x74, 0x7C, 0x80, 0x9C, 0xD4, 0xDC, 0xF4, 0xFC]

/-- The flag byte: bit positions, bit 5 always 1, and Unpack inverse to Pack -/
def Obligations.PackAndUnpackOfTheFlagByte : Prop :=
  (∀ (f : Flags) (k : Nat), f.pack.getLsbD k = [f.c, f.z, f.i, f.d, f.b, true, f.v, f.n].getD k false) ∧
  (∀ b : Byte, Flags.unpack b = { n := b[7], v := b[6], b := b[4], d := b[3], i := b[2], z := b[1], c := b[0] }) ∧
  (∀ f : Flags, Flags.unpack f.pack = f) ∧ (∀ b : Byte, (Flags.unpack b).pack = b ||| 0x20)

/-- Push writes the page-1 cell of SP then decrements SP; Pull increments SP then reads; SP wraps; nothing else changes -/
def Obligations.PushAndPullOnTheStackPage : Prop :=
  ∀ (s : State) (v : Byte),
    stackAddr s.sp = 0x0100 + zext16 s.sp ∧ regionOf (stackAddr s.sp) = .ram ∧
    push v s = { s with ram := s.ram.write (0x100 + s.sp.toNat) v, sp := s.sp - 1 } ∧
    pull s = (s.ram.read (0x100 + (s.sp + 1).toNat), { s with sp := s.sp + 1 }) ∧
    (s.sp = 0x00 → (push v s).sp = 0xFF ∧ (push v s).peek 0x0100 = some v) ∧
    (s.sp = 0xFF → (pull s).2.sp = 0x00 ∧ s.peek 0x0100 = some (pull s).1)

/-- Addresses 0x0000-0x1FFF reach RAM[address mod 0x800], and a write is seen by every image -/
def Obligations.RamIsMirroredEvery2KiB : Prop :=
  ∀ (s : State) (addr : Addr) (v : Byte), addr.toNat ≤ 0x1FFF →
    memRead addr s = (s.ram.read (addr.toNat % 0x800), s) ∧
    memWrite addr v s = { s with ram := s.ram.write (addr.toNat % 0x800) v } ∧
    ∀ q : Addr, q.toNat ≤ 0x1FFF →
      (memWrite addr v s).peek q = if q.toNat % 0x800 = addr.toNat % 0x800 then some v else s.peek q

/-- The PPU and APU/IO stub ranges read 0 and ignore writes, with no condition -/
def Obligations.StubsReadZeroAndDropWrites : Prop :=
  ∀ (s : State) (addr : Addr) (v : Byte), 0x2000 ≤ addr.toNat → addr.toNat ≤ 0x401F →
    memRead addr s = (0, s) ∧ memWrite addr v s = s

/-- Under the NROM-like mapper 0x8000-0xFFFF reads PRG (a 16 KiB bank mirrored), 0x4020-0x7FFF a free value -/
def Obligations.NromWindowReadsTheProgramBank : Prop :=
  ∀ (s : State) (addr : Addr), s.mapper = .nrom →
    (0x8000 ≤ addr.toNat → memRead addr s =
      (s.prg.read (if s.prgExtended then addr.toNat - 0x8000 else (addr.toNat - 0x8000) % 0x4000), s)) ∧
    (0x4020 ≤ addr.toNat → addr.toNat ≤ 0x7FFF →
      memRead addr s = (Config.nromLowRead s.freeReads, { s with freeReads := s.freeReads + 1 }))

/-- Under the NROM-like mapper a write to 0x4020-0xFFFF changes nothing and reports MapperWriteRejected -/
def Obligations.NromRejectsEveryWrite : Prop :=
  ∀ (s : State) (addr : Addr) (v : Byte), s.mapper = .nrom → 0x4020 ≤ addr.toNat →
    memWrite addr v s = { s with cond := .mapperWriteRejected } ∧ (memWrite addr v s).prg = s.prg ∧
    (memWrite addr v s).cond.code = 3

/-- Under the dummy mapper 0x4020-0xFFFF is flat read/write memory indexed by the address -/
def Obligations.DummyMapperIsFlatMemory : Prop :=
  ∀ (s : State) (addr : Addr) (v : Byte), s.mapper = .dummy → 0x4020 ≤ addr.toNat →
    memRead addr s = (s.dram.read addr.toNat, s) ∧
    memWrite addr v s = { s with dram := s.dram.write addr.toNat v } ∧
    ∀ q : Addr, 0x4020 ≤ q.toNat → (memWrite addr v s).peek q = if q = addr then some v else s.peek q

/-- A bus write changes what is read at its own cell only, whatever the region and the mapper -/
def Obligations.WriteLeavesEveryOtherCellAlone : Prop :=
  ∀ (s : State) (addr : Addr) (v : Byte),
    (∀ q : Addr, ¬ sameCell q addr → (memWrite addr v s).peek q = s.peek q) ∧
    ((regionOf addr = .ram ∨ (regionOf addr = .cartridge ∧ s.mapper = .dummy)) →
      ∀ q : Addr, sameCell q addr → (memWrite addr v s).peek q = some v)

/-- ReadWord reads the low byte at the address and then the high byte at the next address modulo 0x10000 -/
def Obligations.WordsAreLittleEndian : Prop :=
  ∀ (s : State) (addr : Addr),
    (∀ lo hi : Byte, s.peek addr = some lo → s.peek (addr + 1) = some hi →
      readWord addr s = (BitVec.ofNat 16 (hi.toNat * 0x100 + lo.toNat), s)) ∧
    readWord addr s =
      (BitVec.ofNat 16 ((memRead (addr + 1) (memRead addr s).2).1.toNat * 0x100 + (memRead addr s).1.toNat),
        (memRead (addr + 1) (memRead addr s).2).2)

/-- Effective addresses of Immediate, ZeroPage and Absolute, with the PC advance -/
def Obligations.ImmediateZeroPageAbsoluteAddresses : Prop :=
  ∀ (s : State) (b lo hi : Byte),
    effectiveAddress (.immediate b) s = (s.pc, { s with pc := s.pc + 1 }) ∧
    (s.peek s.pc = some b → readOperand (.immediate b) s = ((memRead s.pc s).1, { s with pc := s.pc + 1 })) ∧
    effectiveAddress (.zeroPage b) s = (BitVec.ofNat 16 b.toNat, { s with pc := s.pc + 1 }) ∧
    effectiveAddress (.absolute (word16 hi lo)) s =
      (BitVec.ofNat 16 (hi.toNat * 0x100 + lo.toNat), { s with pc := s.pc + 2 })

/-- ZeroPageX and ZeroPageY: the 16-bit sum of operand byte and index, not reduced modulo 0x100 -/
def Obligations.ZeroPageIndexedSumsDoNotWrap : Prop :=
  ∀ (s : State) (p : Byte),
    (effectiveAddress (.zeroPageX p) s).1.toNat = p.toNat + s.x.toNat ∧
    (effectiveAddress (.zeroPageX p) s).2 = { s with pc := s.pc + 1 } ∧
    (effectiveAddress (.zeroPageY p) s).1.toNat = p.toNat + s.y.toNat ∧
    (effectiveAddress (.zeroPageY p) s).2 = { s with pc := s.pc + 1 } ∧
    p.toNat + s.x.toNat ≤ 0x01FE ∧ p.toNat + s.y.toNat ≤ 0x01FE

/-- Effective addresses of AbsoluteX/Y (modulo 0x10000), IndirectX and IndirectY (no zero-page wrap of pointers) -/
def Obligations.IndexedAndIndirectAddresses : Prop :=
  ∀ (s : State) (p : Byte) (w : Addr),
    let word := fun (k : Nat) => (s.ram.read (k + 1)).toNat * 0x100 + (s.ram.read k).toNat
    effectiveAddress (.absoluteX w) s = (BitVec.ofNat 16 (w.toNat + s.x.toNat), { s with pc := s.pc + 2 }) ∧
    effectiveAddress (.absoluteY w) s = (BitVec.ofNat 16 (w.toNat + s.y.toNat), { s with pc := s.pc + 2 }) ∧
    effectiveAddress (.indirectX p) s = (BitVec.ofNat 16 (word (p.toNat + s.x.toNat)), { s with pc := s.pc + 1 }) ∧
    effectiveAddress (.indirectY p) s = (BitVec.ofNat 16 (word p.toNat + s.y.toNat), { s with pc := s.pc + 1 })

/-- The data operand is the byte read through the address decoder at the effective address -/
def Obligations.OperandIsTheByteAtTheEffectiveAddress : Prop :=
  ∀ (s : State),
    (∀ b : Byte, target (.immediate b) s = s.pc ∧ (s.peek s.pc = some b →
      readOperand (.immediate b) s = ((memRead (target (.immediate b) s) s).1, { s with pc := s.pc + 1 }))) ∧
    ∀ o : Operand, (∀ b : Byte, o ≠ .immediate b) →
      readOperand o s = memRead (target o s) { s with pc := s.pc + BitVec.ofNat 16 o.length } ∧
      (∀ v : Byte, s.peek (target o s) = some v →
        readOperand o s = (v, { s with pc := s.pc + BitVec.ofNat 16 o.length })) ∧
      ((target o s).toNat ∈ Set.Icc 0x2000 0x401F → operandByte o s = 0)

/-- WriteOperand through Immediate reports InvalidWrite and changes nothing else; through another mode it is a bus write -/
def Obligations.WriteThroughImmediateIsInvalid : Prop :=
  ∀ (s : State) (ea : Addr) (v : Byte),
    (∀ b : Byte, writeOperand (.immediate b) ea v s = { s with cond := .invalidWrite }) ∧
    Condition.invalidWrite.code = 1 ∧
    (∀ o : Operand, (∀ b : Byte, o ≠ .immediate b) → writeOperand o ea v s = memWrite ea v s) ∧
    (∀ b : Byte, storeOperand (.immediate b) v s = { s with pc := s.pc + 1, cond := .invalidWrite }) ∧
    ∀ i : Instr, (∀ b : Byte, i ≠ .staImm b) → ∀ t, exec i s = .next t → s.cond ≠ .invalidWrite → t.cond ≠ .invalidWrite

/-- SubCore: difference modulo 0x100, C = no borrow, V in closed form, 0 whenever the sign bits differ -/
def Obligations.SubtractIgnoresCarryAndItsOverflowClosedForm : Prop :=
  ∀ a m : Byte,
    (subCore a m).r.toNat = (a.toNat + 0x100 - m.toNat) % 0x100 ∧
    ((subCore a m).c = true ↔ m.toNat ≤ a.toNat) ∧
    ((subCore a m).v = true ↔
      (a.toNat < 0x80 ∧ m.toNat < 0x80 ∧ a.toNat < m.toNat) ∨
      (0x80 ≤ a.toNat ∧ 0x80 ≤ m.toNat ∧ m.toNat ≤ a.toNat))

/-- ROL and ROR: the incoming Carry enters the vacated bit, the bit shifted out is C; nine rotations restore -/
def Obligations.RotatesAreNineBitRotations : Prop :=
  ∀ (v : Byte) (cin : Bool),
    let rol := fun (q : Byte × Bool) => ((rolCore q.1 q.2).r, (rolCore q.1 q.2).c)
    let ror := fun (q : Byte × Bool) => ((rorCore q.1 q.2).r, (rorCore q.1 q.2).c)
    (rolCore v cin).r.toNat = (2 * v.toNat + cin.toNat) % 0x100 ∧ (rolCore v cin).c = v[7] ∧
    (rorCore v cin).r.toNat = cin.toNat * 0x80 + v.toNat / 2 ∧ (rorCore v cin).c = v[0] ∧
    ror (rol (v, cin)) = (v, cin) ∧ rol^[9] (v, cin) = (v, cin) ∧ ror^[9] (v, cin) = (v, cin)

/-- ORA, AND, EOR: A takes the bitwise result, N and Z from it; nothing else but PC changes -/
def Obligations.OrAndEorOnTheAccumulator : Prop :=
  ∀ (s : State) (p lo hi : Byte),
    let w := word16 hi lo
    Executes
      [(.oraInx p, [0x01, p], .indirectX p), (.oraZp p, [0x05, p], .zeroPage p),
        (.oraImm p, [0x09, p], .immediate p), (.oraAbs w, [0x0D, lo, hi], .absolute w),
        (.oraIny p, [0x11, p], .indirectY p), (.oraZpx p, [0x15, p], .zeroPageX p),
        (.oraAby w, [0x19, lo, hi], .absoluteY w), (.oraAbx w, [0x1D, lo, hi], .absoluteX w)] s
      (fun o =>
        let r := s.a ||| operandByte o s
        { afterOperand o s with a := r, flags := { s.flags with n := r.msb, z := r == 0 } }) ∧
    Executes
      [(.andInx p, [0x21, p], .indirectX p), (.andZp p, [0x25, p], .zeroPage p),
        (.andImm p, [0x29, p], .immediate p), (.andAbs w, [0x2D, lo, hi], .absolute w),
        (.andIny p, [0x31, p], .indirectY p), (.andZpx p, [0x35, p], .zeroPageX p),
        (.andAby w, [0x39, lo, hi], .absoluteY w), (.andAbx w, [0x3D, lo, hi], .absoluteX w)] s
      (fun o =>
        let r := s.a &&& operandByte o s
        { afterOperand o s with a := r, flags := { s.flags with n := r.msb, z := r == 0 } }) ∧
    Executes
      [(.eorInx p, [0x41, p], .indirectX p), (.eorZp p, [0x45, p], .zeroPage p),
        (.eorImm p, [0x49, p], .immediate p), (.eorAbs w, [0x4D, lo, hi], .absolute w),
        (.eorIny p, [0x51, p], .indirectY p), (.eorZpx p, [0x55, p], .zeroPageX p),
        (.eorAby w, [0x59, lo, hi], .absoluteY w), (.eorAbx w, [0x5D, lo, hi], .absoluteX w)] s
      (fun o =>
        let r := s.a ^^^ operandByte o s
        { afterOperand o s with a := r, flags := { s.flags with n := r.msb, z := r == 0 } })

/-- ADC: sum, Carry out, same-sign Overflow, N and Z; the incoming Carry only if ADC_CARRY_IN -/
def Obligations.AddWithCarryParameter : Prop :=
  ∀ (s : State) (p lo hi : Byte),
    let w := word16 hi lo
    Executes
      [(.adcInx p, [0x61, p], .indirectX p), (.adcZp p, [0x65, p], .zeroPage p),
        (.adcImm p, [0x69, p], .immediate p), (.adcAbs w, [0x6D, lo, hi], .absolute w),
        (.adcIny p, [0x71, p], .indirectY p), (.adcZpx p, [0x75, p], .zeroPageX p),
        (.adcAby w, [0x79, lo, hi], .absoluteY w), (.adcAbx w, [0x7D, lo, hi], .absoluteX w)] s
      (fun o =>
        let m := operandByte o s
        let sum := s.a.toNat + m.toNat + (if s.adcCarryIn && s.flags.c then 1 else 0)
        let r : Byte := BitVec.ofNat 8 sum
        { afterOperand o s with
          a := r
          flags := { s.flags with
            c := decide (0xFF < sum)
            v := s.a.msb == m.msb && r.msb != s.a.msb
            n := r.msb
            z := r == 0 } })

/-- STA: A is written at the effective address through the Bus; no flag or register but PC changes -/
def Obligations.StoreAWritesOneByte : Prop :=
  ∀ (s : State) (p lo hi : Byte),
    let w := word16 hi lo
    Executes
      [(.staInx p, [0x81, p], .indirectX p), (.staZp p, [0x85, p], .zeroPage p),
        (.staAbs w, [0x8D, lo, hi], .absolute w), (.staIny p, [0x91, p], .indirectY p),
        (.staZpx p, [0x95, p], .zeroPageX p), (.staAby w, [0x99, lo, hi], .absoluteY w),
        (.staAbx w, [0x9D, lo, hi], .absoluteX w)] s
      (fun o => memWrite (target o s) s.a { s with pc := s.pc + BitVec.ofNat 16 o.length })

/-- Opcode 0x89: PC moves past the operand byte, InvalidWrite is reported, nothing else changes -/
def Obligations.StoreAImmediateIsTheInvalidWrite : Prop :=
  ∀ (s : State) (b : Byte), encode (.staImm b) = [0x89, b] ∧
    exec (.staImm b) s = .next { s with pc := s.pc + 1, cond := .invalidWrite }

/-- LDA: A takes the operand byte, N and Z from it; nothing else but PC changes -/
def Obligations.LoadA : Prop :=
  ∀ (s : State) (p lo hi : Byte),
    let w := word16 hi lo
    Executes
      [(.ldaInx p, [0xA1, p], .indirectX p), (.ldaZp p, [0xA5, p], .zeroPage p),
        (.ldaImm p, [0xA9, p], .immediate p), (.ldaAbs w, [0xAD, lo, hi], .absolute w),
        (.ldaIny p, [0xB1, p], .indirectY p), (.ldaZpx p, [0xB5, p], .zeroPageX p),
        (.ldaAby w, [0xB9, lo, hi], .absoluteY w), (.ldaAbx w, [0xBD, lo, hi], .absoluteX w)] s
      (fun o =>
        let m := operandByte o s
        { afterOperand o s with a := m, flags := { s.flags with n := m.msb, z := m == 0 } })

/-- CMP: C = (A >= m), Z = (A == m), N = bit 7 of A itself; A, V and the rest unchanged -/
def Obligations.CompareATakesNFromA : Prop :=
  ∀ (s : State) (p lo hi : Byte),
    let w := word16 hi lo
    Executes
      [(.cmpInx p, [0xC1, p], .indirectX p), (.cmpZp p, [0xC5, p], .zeroPage p),
        (.cmpImm p, [0xC9, p], .immediate p), (.cmpAbs w, [0xCD, lo, hi], .absolute w),
        (.cmpIny p, [0xD1, p], .indirectY p), (.cmpZpx p, [0xD5, p], .zeroPageX p),
        (.cmpAby w, [0xD9, lo, hi], .absoluteY w), (.cmpAbx w, [0xDD, lo, hi], .absoluteX w)] s
      (fun o =>
        let m := operandByte o s
        { afterOperand o s with
          flags := { s.flags with c := decide (m.toNat ≤ s.a.toNat), z := decide (s.a = m), n := s.a.msb } })

/-- SBC: A = A - m, C = no borrow, V by the literal same-sign rule, N and Z; the incoming Carry is not read -/
def Obligations.SubtractIgnoresTheIncomingCarry : Prop :=
  ∀ (s : State) (p lo hi : Byte),
    let w := word16 hi lo
    Executes
      [(.sbcInx p, [0xE1, p], .indirectX p), (.sbcZp p, [0xE5, p], .zeroPage p),
        (.sbcImm p, [0xE9, p], .immediate p), (.sbcAbs w, [0xED, lo, hi], .absolute w),
        (.sbcIny p, [0xF1, p], .indirectY p), (.sbcZpx p, [0xF5, p], .zeroPageX p),
        (.sbcAby w, [0xF9, lo, hi], .absoluteY w), (.sbcAbx w, [0xFD, lo, hi], .absoluteX w)] s
      (fun o =>
        let m := operandByte o s
        let r := s.a - m
        { afterOperand o s with
          a := r
          flags := { s.flags with
            c := decide (m.toNat ≤ s.a.toNat)
            v := s.a.msb == m.msb && r.msb != s.a.msb
            n := r.msb
            z := r == 0 } })

/-- ASL, ROL, LSR, ROR on A and on memory: result, C = bit shifted out, N and Z; one read and one write of one address -/
def Obligations.ShiftsAndRotates : Prop :=
  ∀ (s : State) (p lo hi : Byte),
    let w := word16 hi lo
    (let r := fun v : Byte => v <<< 1
     let f := fun v : Byte => { s.flags with c := v[7], n := (r v).msb, z := r v == 0 }
     ExecutesByte .aslAcc 0x0A s { s with a := r s.a, flags := f s.a } ∧
     Executes [(.aslZp p, [0x06, p], .zeroPage p), (.aslAbs w, [0x0E, lo, hi], .absolute w),
         (.aslZpx p, [0x16, p], .zeroPageX p), (.aslAbx w, [0x1E, lo, hi], .absoluteX w)] s
       (fun o =>
         let m := operandByte o s
         memWrite (target o s) (r m) { afterOperand o s with flags := f m })) ∧
    (let r := fun v : Byte => (v <<< 1) ||| (if s.flags.c then 0x01 else 0x00)
     let f := fun v : Byte => { s.flags with c := v[7], n := (r v).msb, z := r v == 0 }
     ExecutesByte .rolAcc 0x2A s { s with a := r s.a, flags := f s.a } ∧
     Executes [(.rolZp p, [0x26, p], .zeroPage p), (.rolAbs w, [0x2E, lo, hi], .absolute w),
         (.rolZpx p, [0x36, p], .zeroPageX p), (.rolAbx w, [0x3E, lo, hi], .absoluteX w)] s
       (fun o =>
         let m := operandByte o s
         memWrite (target o s) (r m) { afterOperand o s with flags := f m })) ∧
    (let r := fun v : Byte => v >>> 1
     let f := fun v : Byte => { s.flags with c := v[0], n := (r v).msb, z := r v == 0 }
     ExecutesByte .lsrAcc 0x4A s { s with a := r s.a, flags := f s.a } ∧
     Executes [(.lsrZp p, [0x46, p], .zeroPage p), (.lsrAbs w, [0x4E, lo, hi], .absolute w),
         (.lsrZpx p, [0x56, p], .zeroPageX p), (.lsrAbx w, [0x5E, lo, hi], .absoluteX w)] s
       (fun o =>
         let m := operandByte o s
         memWrite (target o s) (r m) { afterOperand o s with flags := f m })) ∧
    (let r := fun v : Byte => (v >>> 1) ||| (if s.flags.c then 0x80 else 0x00)
     let f := fun v : Byte => { s.flags with c := v[0], n := (r v).msb, z := r v == 0 }
     ExecutesByte .rorAcc 0x6A s { s with a := r s.a, flags := f s.a } ∧
     Executes [(.rorZp p, [0x66, p], .zeroPage p), (.rorAbs w, [0x6E, lo, hi], .absolute w),
         (.rorZpx p, [0x76, p], .zeroPageX p), (.rorAbx w, [0x7E, lo, hi], .absoluteX w)] s
       (fun o =>
         let m := operandByte o s
         memWrite (target o s) (r m) { afterOperand o s with flags := f m }))

/-- LDX, LDY: the register takes the operand byte, N and Z from it; STX, STY: it is written at the effective address, no flag -/
def Obligations.LoadAndStoreXAndY : Prop :=
  ∀ (s : State) (p lo hi : Byte),
    let w := word16 hi lo
    Executes
      [(.ldxImm p, [0xA2, p], .immediate p), (.ldxZp p, [0xA6, p], .zeroPage p),
        (.ldxAbs w, [0xAE, lo, hi], .absolute w), (.ldxZpy p, [0xB6, p], .zeroPageY p),
        (.ldxAby w, [0xBE, lo, hi], .absoluteY w)] s
      (fun o =>
        let m := operandByte o s
        { afterOperand o s with x := m, flags := { s.flags with n := m.msb, z := m == 0 } }) ∧
    Executes
      [(.stxZp p, [0x86, p], .zeroPage p), (.stxAbs w, [0x8E, lo, hi], .absolute w),
        (.stxZpy p, [0x96, p], .zeroPageY p)] s
      (fun o => memWrite (target o s) s.x { s with pc := s.pc + BitVec.ofNat 16 o.length }) ∧
    Executes
      [(.ldyImm p, [0xA0, p], .immediate p), (.ldyZp p, [0xA4, p], .zeroPage p),
        (.ldyAbs w, [0xAC, lo, hi], .absolute w), (.ldyZpx p, [0xB4, p], .zeroPageX p),
        (.ldyAbx w, [0xBC, lo, hi], .absoluteX w)] s
      (fun o =>
        let m := operandByte o s
        { afterOperand o s with y := m, flags := { s.flags with n := m.msb, z := m == 0 } }) ∧
    Executes
      [(.styZp p, [0x84, p], .zeroPage p), (.styAbs w, [0x8C, lo, hi], .absolute w),
        (.styZpx p, [0x94, p], .zeroPageX p)] s
      (fun o => memWrite (target o s) s.y { s with pc := s.pc + BitVec.ofNat 16 o.length })

/-- DEC and INC: the byte at the effective address changes by one modulo 0x100, N and Z from the result; C and V untouched -/
def Obligations.DecrementAndIncrementMemory : Prop :=
  ∀ (s : State) (p lo hi : Byte),
    let w := word16 hi lo
    Executes
      [(.decZp p, [0xC6, p], .zeroPage p), (.decAbs w, [0xCE, lo, hi], .absolute w),
        (.decZpx p, [0xD6, p], .zeroPageX p), (.decAbx w, [0xDE, lo, hi], .absoluteX w)] s
      (fun o =>
        let r := operandByte o s - 1
        memWrite (target o s) r { afterOperand o s with flags := { s.flags with n := r.msb, z := r == 0 } }) ∧
    Executes
      [(.incZp p, [0xE6, p], .zeroPage p), (.incAbs w, [0xEE, lo, hi], .absolute w),
        (.incZpx p, [0xF6, p], .zeroPageX p), (.incAbx w, [0xFE, lo, hi], .absoluteX w)] s
      (fun o =>
        let r := operandByte o s + 1
        memWrite (target o s) r { afterOperand o s with flags := { s.flags with n := r.msb, z := r == 0 } })

/-- TXA TYA TAX TAY TSX TXS, INX INY DEX DEY, NOP: one register copied or counted, N and Z except for TXS, NOP nothing -/
def Obligations.RegisterTransfersAndCounts : Prop :=
  ∀ s : State,
    let nz := fun r : Byte => { s.flags with n := r.msb, z := r == 0 }
    ExecutesByte .txa 0x8A s { s with a := s.x, flags := nz (s.x) } ∧
    ExecutesByte .tya 0x98 s { s with a := s.y, flags := nz (s.y) } ∧
    ExecutesByte .tax 0xAA s { s with x := s.a, flags := nz (s.a) } ∧
    ExecutesByte .tay 0xA8 s { s with y := s.a, flags := nz (s.a) } ∧
    ExecutesByte .tsx 0xBA s { s with x := s.sp, flags := nz (s.sp) } ∧
    ExecutesByte .txs 0x9A s { s with sp := s.x } ∧
    ExecutesByte .dex 0xCA s { s with x := s.x - 1, flags := nz (s.x - 1) } ∧
    ExecutesByte .dey 0x88 s { s with y := s.y - 1, flags := nz (s.y - 1) } ∧
    ExecutesByte .inx 0xE8 s { s with x := s.x + 1, flags := nz (s.x + 1) } ∧
    ExecutesByte .iny 0xC8 s { s with y := s.y + 1, flags := nz (s.y + 1) } ∧
    ExecutesByte .nop 0xEA s s

/-- Branches: PC past the offset byte, plus the signed offset exactly when the flag has the wanted value; nothing else changes -/
def Obligations.BranchesMoveOnlyPc : Prop :=
  ∀ (s : State) (off : Byte),
    List.Forall (fun f : Instr × Byte × Bool => encode f.1 = [f.2.1, off] ∧
        exec f.1 s = .next { s with
          pc := BitVec.ofInt 16 (s.pc.toNat + 1 + if f.2.2 = true then off.toInt else 0) })
      [(.bpl off, 0x10, !s.flags.n), (.bmi off, 0x30, s.flags.n), (.bvc off, 0x50, !s.flags.v),
        (.bvs off, 0x70, s.flags.v), (.bcc off, 0x90, !s.flags.c), (.bcs off, 0xB0, s.flags.c),
        (.bne off, 0xD0, !s.flags.z), (.beq off, 0xF0, s.flags.z)]

/-- JMP Absolute loads PC with the operand word, JMP AbsoluteIndirect with the word read there; nothing else changes -/
def Obligations.JumpsLoadPc : Prop :=
  ∀ (s : State) (lo hi : Byte),
    let w := word16 hi lo
    encode (.jmpAbs w) = [0x4C, lo, hi] ∧ exec (.jmpAbs w) s = .next { s with pc := w } ∧
    encode (.jmpInd w) = [0x6C, lo, hi] ∧
    exec (.jmpInd w) s = .next { s with pc := (readWord w s).1, freeReads := (readWord w s).2.freeReads } ∧
    ∀ tl th : Byte, s.peek w = some tl → s.peek (w + 1) = some th →
      exec (.jmpInd w) s = .next { s with pc := word16 th tl }

/-- JSR pushes the address of its own last byte, high byte first, and jumps; RTS pulls low then high and adds 1 -/
def Obligations.JsrPushesAndRtsPulls : Prop :=
  ∀ (s : State) (lo hi : Byte),
    let w := word16 hi lo
    encode (.jsr w) = [0x20, lo, hi] ∧
    exec (.jsr w) s = .next { s with
      ram := (s.ram.write (0x100 + s.sp.toNat) (hiByte (s.pc + 1))).write (0x100 + (s.sp - 1).toNat) (loByte (s.pc + 1))
      sp := s.sp - 2
      pc := w } ∧
    ExecutesByte .rts 0x60 s { s with
      sp := s.sp + 2
      pc := word16 (s.ram.read (0x100 + (s.sp + 2).toNat)) (s.ram.read (0x100 + (s.sp + 1).toNat)) + 1 }

/-- BRK pushes opcode address + 2 and the flags with B = 1, sets B and I, and PC takes the word at 0xFFFE -/
def Obligations.BrkTakesTheVectoredEntry : Prop :=
  ∀ s : State, ExecutesByte .brk 0x00 s { s with
    ram := ((s.ram.write (0x100 + s.sp.toNat) (hiByte (s.pc + 1))).write (0x100 + (s.sp - 1).toNat)
      (loByte (s.pc + 1))).write (0x100 + (s.sp - 2).toNat) ({ s.flags with b := true } : Flags).pack
    sp := s.sp - 3
    flags := { s.flags with b := true, i := true }
    pc := (readWord 0xFFFE s).1 }

/-- RTI pulls the flags (B cleared), then PC low and high with no increment; SP increases by 3; nothing else changes -/
def Obligations.RtiRestoresFlagsAndPc : Prop :=
  ∀ s : State,
    let f := s.ram.read (0x100 + (s.sp + 1).toNat)
    ExecutesByte .rti 0x40 s { s with
      flags := { n := f[7], v := f[6], b := false, d := f[3], i := f[2], z := f[1], c := f[0] }
      pc := word16 (s.ram.read (0x100 + (s.sp + 3).toNat)) (s.ram.read (0x100 + (s.sp + 2).toNat))
      sp := s.sp + 3 }

/-- BIT: Z from A & m, N and V are bits 7 and 6 of the memory byte; nothing else but PC changes -/
def Obligations.BitTestSetsThreeFlags : Prop :=
  ∀ (s : State) (p lo hi : Byte),
    let w := word16 hi lo
    Executes [(.bitZp p, [0x24, p], .zeroPage p), (.bitAbs w, [0x2C, lo, hi], .absolute w)] s
      (fun o =>
        let m := operandByte o s
        { afterOperand o s with flags := { s.flags with z := (s.a &&& m) == 0, n := m[7], v := m[6] } })

/-- CPX, CPY: C = (reg >= m), Z = (reg == m), N = bit 7 of the 8-bit difference; nothing else but PC changes -/
def Obligations.CompareXAndYTakeNFromTheDifference : Prop :=
  ∀ (s : State) (p lo hi : Byte),
    let w := word16 hi lo
    Executes [(.cpxImm p, [0xE0, p], .immediate p), (.cpxZp p, [0xE4, p], .zeroPage p),
      (.cpxAbs w, [0xEC, lo, hi], .absolute w)] s
      (fun o =>
        let m := operandByte o s
        { afterOperand o s with
          flags := { s.flags with c := decide (m.toNat ≤ s.x.toNat), z := decide (s.x = m), n := (s.x - m).msb } }) ∧
    Executes [(.cpyImm p, [0xC0, p], .immediate p), (.cpyZp p, [0xC4, p], .zeroPage p),
      (.cpyAbs w, [0xCC, lo, hi], .absolute w)] s
      (fun o =>
        let m := operandByte o s
        { afterOperand o s with
          flags := { s.flags with c := decide (m.toNat ≤ s.y.toNat), z := decide (s.y = m), n := (s.y - m).msb } })

/-- PHA, PHP, PLA, PLP: one stack cell and SP; PLA sets N and Z, PLP all flags with B cleared -/
def Obligations.StackInstructionsPushAndPull : Prop :=
  ∀ s : State,
    let m := s.ram.read (0x100 + (s.sp + 1).toNat)
    ExecutesByte .pha 0x48 s { s with ram := s.ram.write (0x100 + s.sp.toNat) s.a, sp := s.sp - 1 } ∧
    ExecutesByte .php 0x08 s { s with ram := s.ram.write (0x100 + s.sp.toNat) s.flags.pack, sp := s.sp - 1 } ∧
    s.flags.pack[5] = true ∧ s.flags.pack[4] = s.flags.b ∧
    ExecutesByte .pla 0x68 s { s with a := m, sp := s.sp + 1, flags := { s.flags with n := m.msb, z := m == 0 } } ∧
    ExecutesByte .plp 0x28 s { s with
      sp := s.sp + 1
      flags := { n := m[7], v := m[6], b := false, d := m[3], i := m[2], z := m[1], c := m[0] } }

/-- CLC SEC CLI SEI CLV CLD SED: one flag takes a constant, nothing else changes -/
def Obligations.FlagInstructionsWriteOneFlag : Prop :=
  ∀ s : State,
    ExecutesByte .clc 0x18 s { s with flags := { s.flags with c := false } } ∧
    ExecutesByte .sec 0x38 s { s with flags := { s.flags with c := true } } ∧
    ExecutesByte .cli 0x58 s { s with flags := { s.flags with i := false } } ∧
    ExecutesByte .sei 0x78 s { s with flags := { s.flags with i := true } } ∧
    ExecutesByte .clv 0xB8 s { s with flags := { s.flags with v := false } } ∧
    ExecutesByte .cld 0xD8 s { s with flags := { s.flags with d := false } } ∧
    ExecutesByte .sed 0xF8 s { s with flags := { s.flags with d := true } }

/-- Each of the 104 unimplemented bytes changes nothing after the opcode fetch and reports UnimplementedOpcode -/
def Obligations.UnimplementedOpcodesOnlyReport : Prop :=
  ∀ s : State, Condition.unimplementedOpcode.code = 2 ∧
    List.Forall (fun f : Instr × Byte => ExecutesByte f.1 f.2 s { s with cond := .unimplementedOpcode })
      [(.unimpl02, 0x02), (.unimpl03, 0x03), (.unimpl04, 0x04), (.unimpl07, 0x07), (.unimpl0B, 0x0B),
        (.unimpl0C, 0x0C), (.unimpl0F, 0x0F), (.unimpl12, 0x12), (.unimpl13, 0x13), (.unimpl14, 0x14),
        (.unimpl17, 0x17), (.unimpl1A, 0x1A), (.unimpl1B, 0x1B), (.unimpl1C, 0x1C), (.unimpl1F, 0x1F),
        (.unimpl22, 0x22), (.unimpl23, 0x23), (.unimpl27, 0x27), (.unimpl2B, 0x2B), (.unimpl2F, 0x2F),
        (.unimpl32, 0x32), (.unimpl33, 0x33), (.unimpl34, 0x34), (.unimpl37, 0x37), (.unimpl3A, 0x3A),
        (.unimpl3B, 0x3B), (.unimpl3C, 0x3C), (.unimpl3F, 0x3F), (.unimpl42, 0x42), (.unimpl43, 0x43),
        (.unimpl44, 0x44), (.unimpl47, 0x47), (.unimpl4B, 0x4B), (.unimpl4F, 0x4F), (.unimpl52, 0x52),
        (.unimpl53, 0x53), (.unimpl54, 0x54), (.unimpl57, 0x57), (.unimpl5A, 0x5A), (.unimpl5B, 0x5B),
        (.unimpl5C, 0x5C), (.unimpl5F, 0x5F), (.unimpl62, 0x62), (.unimpl63, 0x63), (.unimpl64, 0x64),
        (.unimpl67, 0x67), (.unimpl6B, 0x6B), (.unimpl6F, 0x6F), (.unimpl72, 0x72), (.unimpl73, 0x73),
        (.unimpl74, 0x74), (.unimpl77, 0x77), (.unimpl7A, 0x7A), (.unimpl7B, 0x7B), (.unimpl7C, 0x7C),
        (.unimpl7F, 0x7F), (.unimpl80, 0x80), (.unimpl82, 0x82), (.unimpl83, 0x83), (.unimpl87, 0x87),
        (.unimpl8B, 0x8B), (.unimpl8F, 0x8F), (.unimpl92, 0x92), (.unimpl93, 0x93), (.unimpl97, 0x97),
        (.unimpl9B, 0x9B), (.unimpl9C, 0x9C), (.unimpl9E, 0x9E), (.unimpl9F, 0x9F), (.unimplA3, 0xA3),
        (.unimplA7, 0xA7), (.unimplAB, 0xAB), (.unimplAF, 0xAF), (.unimplB2, 0xB2), (.unimplB3, 0xB3),
        (.unimplB7, 0xB7), (.unimplBB, 0xBB), (.unimplBF, 0xBF), (.unimplC2, 0xC2), (.unimplC3, 0xC3),
        (.unimplC7, 0xC7), (.unimplCB, 0xCB), (.unimplCF, 0xCF), (.unimplD2, 0xD2), (.unimplD3, 0xD3),
        (.unimplD4, 0xD4), (.unimplD7, 0xD7), (.unimplDA, 0xDA), (.unimplDB, 0xDB), (.unimplDC, 0xDC),
        (.unimplDF, 0xDF), (.unimplE2, 0xE2), (.unimplE3, 0xE3), (.unimplE7, 0xE7), (.unimplEB, 0xEB),
        (.unimplEF, 0xEF), (.unimplF2, 0xF2), (.unimplF3, 0xF3), (.unimplF4, 0xF4), (.unimplF7, 0xF7),
        (.unimplFA, 0xFA), (.unimplFB, 0xFB), (.unimplFC, 0xFC), (.unimplFF, 0xFF)]

/-- Every instruction that stores nothing leaves every byte of memory as it reads -/
def Obligations.NonStoringInstructionsKeepMemory : Prop :=
  ∀ (i : Instr) (s t : State),
    (i.mnemonic ∉ [.sta, .stx, .sty, .asl, .rol, .lsr, .ror, .inc, .dec, .pha, .php, .jsr, .brk] ∨
      i ∈ accumulatorForms ∨ ∃ b, i = .staImm b) →
    exec i s = .next t →
    t.ram = s.ram ∧ t.dram = s.dram ∧ t.prg = s.prg ∧ ∀ q : Addr, t.peek q = s.peek q

/-- A store or read-modify-write changes memory at its effective address only, and no register but PC -/
def Obligations.StoresChangeOnlyTheirOwnCell : Prop :=
  ∀ (p : Byte) (w : Addr) (s : State), List.Forall (fun f : Instr × Operand => ∃ t, exec f.1 s = .next t ∧
      (∀ q : Addr, ¬ sameCell q (target f.2 s) → t.peek q = s.peek q) ∧
      t.a = s.a ∧ t.x = s.x ∧ t.y = s.y ∧ t.sp = s.sp ∧ t.engine = s.engine ∧ s.sameParameters t ∧
      t.pc = s.pc + BitVec.ofNat 16 f.2.length ∧
      t.flags.v = s.flags.v ∧ t.flags.b = s.flags.b ∧ t.flags.d = s.flags.d ∧ t.flags.i = s.flags.i ∧
      (f.1.mnemonic ∈ [.sta, .stx, .sty] → t.flags = s.flags))
    (storingForms p w)

/-- PHA, PHP, JSR and BRK change memory in the stack cells they push to only -/
def Obligations.PushesChangeOnlyTheirStackCells : Prop :=
  ∀ (s t : State) (q : Addr),
    ((exec .pha s = .next t ∨ exec .php s = .next t) → ¬ sameCell q (stackAddr s.sp) → t.peek q = s.peek q) ∧
    (∀ w : Addr, exec (.jsr w) s = .next t → ¬ sameCell q (stackAddr s.sp) → ¬ sameCell q (stackAddr (s.sp - 1)) →
      t.peek q = s.peek q) ∧
    (exec .brk s = .next t → ¬ sameCell q (stackAddr s.sp) → ¬ sameCell q (stackAddr (s.sp - 1)) →
      ¬ sameCell q (stackAddr (s.sp - 2)) → t.peek q = s.peek q)

/-- A, X, Y and SP are written by the instructions the register tables name and by no other -/
def Obligations.OnlyTheNamedInstructionsWriteARegister : Prop :=
  ∀ (i : Instr) (s t : State), exec i s = .next t →
    (i.mnemonic ∉ [.lda, .ora, .and, .eor, .adc, .sbc, .txa, .tya, .pla] → i ∉ accumulatorForms → t.a = s.a) ∧
    (i.mnemonic ∉ [.ldx, .tax, .tsx, .inx, .dex] → t.x = s.x) ∧
    (i.mnemonic ∉ [.ldy, .tay, .iny, .dey] → t.y = s.y) ∧
    (i.mnemonic ∉ [.txs, .pha, .php, .pla, .plp, .jsr, .rts, .brk, .rti] → t.sp = s.sp)

/-- Each flag is written by the instructions R17 lists for it and by no other -/
def Obligations.OnlyTheNamedInstructionsWriteAFlag : Prop :=
  ∀ (i : Instr) (s t : State), exec i s = .next t →
    (i.mnemonic ∉ [.lda, .ldx, .ldy, .ora, .and, .eor, .adc, .sbc, .cmp, .cpx, .cpy, .bit, .asl, .rol, .lsr, .ror, .inc, .dec,
        .inx, .iny, .dex, .dey, .tax, .tay, .txa, .tya, .tsx, .pla, .plp, .rti] →
        t.flags.n = s.flags.n ∧ t.flags.z = s.flags.z) ∧
    (i.mnemonic ∉ [.adc, .sbc, .bit, .clv, .plp, .rti] → t.flags.v = s.flags.v) ∧
    (i.mnemonic ∉ [.brk, .plp, .rti] → t.flags.b = s.flags.b) ∧
    (i.mnemonic = .brk → t.flags.b = true ∧ t.flags.i = true) ∧
    (i.mnemonic ∈ [.plp, .rti] → t.flags.b = false) ∧
    (i.mnemonic ∉ [.sed, .cld, .plp, .rti] → t.flags.d = s.flags.d) ∧
    (i.mnemonic ∉ [.sei, .cli, .brk, .plp, .rti] → t.flags.i = s.flags.i) ∧
    (i.mnemonic ∉ [.adc, .sbc, .cmp, .cpx, .cpy, .asl, .rol, .lsr, .ror, .clc, .sec, .plp, .rti] →
        t.flags.c = s.flags.c)

/-- Every instruction that is no control transfer leaves PC at the next opcode byte; a step moves PC by its length -/
def Obligations.PcAdvancesByTheLength : Prop :=
  ∀ (i : Instr) (s t : State),
    i.mnemonic ∉ [.bpl, .bmi, .bvc, .bvs, .bcc, .bcs, .bne, .beq, .jmp, .jsr, .rts, .brk, .rti] →
    (exec i s = .next t → t.pc = s.pc + BitVec.ofNat 16 (i.length - 1)) ∧
    (s.engine = .running → (fetch (s.report .ok)).1 = i → step s = .next t → t.pc = s.pc + BitVec.ofNat 16 i.length)

/-- InvalidWrite by 0x89 only, UnimplementedOpcode by the 104 bytes only, MapperWriteRejected by rejected operand writes only -/
def Obligations.ConditionsAreReportedExactlyWhenTheRulesSay : Prop :=
  ∀ (s t : State),
    (∀ i : Instr, i.mnemonic = .unimplemented → exec i s = .next t → t.cond = .unimplementedOpcode) ∧
    (∀ b : Byte, exec (.staImm b) s = .next t → t.cond = .invalidWrite) ∧
    (∀ (p : Byte) (w : Addr), ∀ f ∈ storingForms p w, exec f.1 s = .next t →
      t.cond = if s.mapper = .nrom ∧ 0x4020 ≤ (target f.2 s).toNat then .mapperWriteRejected else s.cond) ∧
    (∀ i : Instr, i.mnemonic ∉ [.unimplemented, .sta, .stx, .sty, .asl, .rol, .lsr, .ror, .inc, .dec] ∨
        i ∈ accumulatorForms → exec i s = .next t → t.cond = s.cond)

/-- A step fetches and decodes the bytes at PC and is exec of that instruction, cond OK, PC past the opcode byte -/
def Obligations.StepRunsTheDecodedInstruction : Prop :=
  ∀ (s : State) (i : Instr), s.engine = .running →
    (∀ (bytes : List Byte) (s1 : State), readBytes i.length s.pc { s with cond := .ok } = (bytes, s1) →
      decode bytes = .ok (i, []) → step s = exec i { s1 with pc := s.pc + 1 }) ∧
    (∀ bytes : List Byte, decode bytes = .ok (i, []) →
      (∀ k : Fin bytes.length, s.peek (s.pc + BitVec.ofNat 16 k) = some bytes[k]) →
      step s = exec i { s with pc := s.pc + 1, cond := .ok })

/-- No instruction and no condition stops the engine: a step of a Running engine answers a next state, Running -/
def Obligations.StepAlwaysCompletesWhileRunning : Prop :=
  (∀ (i : Instr) (s : State), ∃ t, exec i s = .next t ∧ t.engine = s.engine) ∧
  (∀ s : State, s.engine = .running → ∃ t, step s = .next t ∧ t.engine = .running) ∧
  (∀ s : State, s.engine ≠ .running → step s = .refused .notRunning)

/-- Every step keeps the memories in canonical form and within their arrays, and the engine Running -/
def Obligations.StepKeepsTheInvariant : Prop :=
  ∀ s t : State, s.Inv → step s = .next t → t.Inv

/-- No step changes MAPPER, PRG, isExtended or ADC_CARRY_IN; under NROM nothing in cartridge space changes -/
def Obligations.ParametersAndCartridgeNeverChange : Prop :=
  ∀ s t : State, step s = .next t →
    s.sameParameters t ∧
    (s.mapper = .nrom → t.dram = s.dram ∧ ∀ q : Addr, 0x4020 ≤ q.toNat → t.peek q = s.peek q) ∧
    (s.mapper = .dummy → t.cond ≠ .mapperWriteRejected)

/-- Every state of a run with accepted parameters meets the invariant and keeps those parameters -/
def Obligations.ReachableStatesMeetTheInvariant : Prop :=
  ∀ (P : Params) (s : State), Reachable P s →
    s.Inv ∧ s.mapper = P.mapper ∧ s.prg = P.prg ∧ s.prgExtended = (P.prgLength == 0x8000) ∧
      s.adcCarryIn = P.adcCarryIn

/-- State.reset is power_on with the default parameters followed by reset(), and meets the invariant -/
def Obligations.ResetStateIsPowerOnThenReset : Prop :=
  (match powerOn Params.default with
    | .next s => resetTransaction s = { State.reset with pc := (resetTransaction s).pc } ∧
        (resetTransaction s).pc = State.reset.pc
    | _ => False) ∧ State.reset.Inv

/-- power_on: SP = 0xFD, I set and the other flags clear, A X Y and memory from the parameters; other cartridges refused -/
def Obligations.PowerOnSetsTheStatedValues : Prop :=
  ∀ P : Params,
    (P.mapper = .nrom → P.prgLength ≠ 0x4000 → P.prgLength ≠ 0x8000 → powerOn P = .refused .cartridgeLength) ∧
    (P.wf = true → ∃ s, powerOn P = .next s ∧ step s = .refused .notRunning ∧ s.sp = 0xFD ∧
      s.flags = { n := false, v := false, b := false, d := false, i := true, z := false, c := false } ∧
      s.a = P.powerOnA ∧ s.x = P.powerOnX ∧ s.y = P.powerOnY ∧ s.ram = P.ramInit ∧ s.dram = P.dummyInit ∧
      s.prg = P.prg ∧ s.mapper = P.mapper ∧ s.adcCarryIn = P.adcCarryIn ∧ s.engine = .constructed ∧
      (s.prgExtended = true ↔ P.prgLength = 0x8000))

/-- reset(): PC takes the word at 0xFFFC, the flag byte becomes 0x24, the engine runs; nothing else changes, every time. That
`cond` stays as it was is the model's choice (log 7), not a rule of the spec. -/
def Obligations.ResetLoadsPcAndFlagsOnly : Prop :=
  ∀ s : State,
    resetTransaction s = { s with
      pc := (readWord 0xFFFC s).1
      flags := { n := false, v := false, b := false, d := false, i := true, z := false, c := false }
      engine := .running } ∧
    (resetTransaction s).flags.pack = 0x24 ∧
    (∀ lo hi : Byte, s.peek 0xFFFC = some lo → s.peek 0xFFFD = some hi → (resetTransaction s).pc = word16 hi lo) ∧
    (s.mapper = .nrom → s.peek 0xFFFC = some (s.prg.read (if s.prgExtended then 0x7FFC else 0x3FFC)) ∧
      s.peek 0xFFFD = some (s.prg.read (if s.prgExtended then 0x7FFD else 0x3FFD))) ∧
    (s.mapper = .dummy → s.peek 0xFFFC = some (s.dram.read 0xFFFC) ∧ s.peek 0xFFFD = some (s.dram.read 0xFFFD)) ∧
    resetTransaction (resetTransaction s) = resetTransaction s

/-- step(n) is n sequential steps: step(0) does nothing and step(m + n) is step(m) then step(n) -/
def Obligations.StepNIsNSequentialSteps : Prop :=
  ∀ (m n : Nat) (s : State),
    stepTimes 0 s = .next s ∧ stepTimes 1 s = step s ∧
    stepTimes (m + n) s = (match stepTimes m s with
      | .next t => stepTimes n t
      | .fault r => .fault r
      | .refused r => .refused r) ∧
    (s.engine = .running → ∃ t, stepTimes n s = .next t ∧ t.engine = .running)

/-- RTS undoes JSR, RTI undoes BRK (B cleared), PLA undoes PHA: PC, SP and registers come back, for every SP -/
def Obligations.CallsAndReturnsAreInverse : Prop :=
  ∀ (s : State) (w : Addr),
    (∃ t, exec (.jsr w) s = .next t ∧ exec .rts t = .next { s with pc := s.pc + 2, ram := t.ram }) ∧
    (∃ t, exec .brk s = .next t ∧
      exec .rti t = .next { s with pc := s.pc + 1, ram := t.ram, flags := { s.flags with b := false } }) ∧
    (∃ t, exec .pha s = .next t ∧
      exec .pla t = .next { s with ram := t.ram, flags := { s.flags with n := s.a.msb, z := s.a == 0 } })

/-- B, D and I influence nothing but the byte PHP and BRK push -/
def Obligations.BreakDecimalInterruptFlagsAreInert : Prop :=
  ∀ (i : Instr) (s : State) (b d j : Bool), i.mnemonic ∉ [.php, .brk] →
    ∃ t u, exec i s = .next t ∧
      exec i { s with flags := { s.flags with b := b, d := d, i := j } } = .next u ∧
      u = { t with flags := { t.flags with b := u.flags.b, d := u.flags.d, i := u.flags.i } }
end

