-- ==== Sys2Proof/Laws/Decode.lean ====
section
/-! SUPPORT. What a cell of the dispatch tables says of the instruction it names, once for all 256 opcode bytes. -/

namespace Sys2Proof

/-- A cell agrees with an opcode byte: the instruction it names has that opcode, the operand its bytes hold, the length of
its mode, and takes no operand where it is unimplemented (R60, R62, R68). -/
def Cell.Agrees (op : Byte) : Cell → Prop
  | .noOperand i => i.opcode = op ∧ i.payload = .none ∧ i.length = 1
  | .byteOperand f => ∀ b, (f b).opcode = op ∧ (f b).payload = .byte b ∧ (f b).length = 2 ∧
      (f b).mnemonic ≠ .unimplemented
  | .wordOperand f => ∀ w, (f w).opcode = op ∧ (f w).payload = .word w ∧ (f w).length = 3 ∧
      (f w).mnemonic ≠ .unimplemented

/-- Every opcode byte's cell agrees with it (R71). -/
theorem cellOf_agrees (op : Byte) : (cellOf op).Agrees op := by
  obtain ⟨n, hn, rfl⟩ : ∃ n < 256, op = BitVec.ofNat 8 n := ⟨op.toNat, op.isLt, by simp⟩
  interval_cases n <;> first
    | (change Cell.Agrees _ (.noOperand _); exact ⟨rfl, rfl, rfl⟩)
    | (change Cell.Agrees _ (.byteOperand _); exact fun _ => ⟨rfl, rfl, rfl, nofun⟩)
    | (change Cell.Agrees _ (.wordOperand _); exact fun _ => ⟨rfl, rfl, rfl, nofun⟩)

end Sys2Proof
end

