-- ==== Sys2Proof/Laws/Memory.lean ====
section
/-! SUPPORT. The laws of the arrays of byte cells: read after write, and that a write keeps the canonical form. -/

namespace Sys2Proof

@[simp] theorem Memory.read_nil (a : Nat) : Memory.read [] a = 0 := rfl

theorem Memory.read_erase (m : Memory) (a q : Nat) :
    Memory.read (Memory.erase m a) q = if q = a then 0 else Memory.read m q := by
  induction m with
  | nil => simp [Memory.erase]
  | cons cell m ih =>
    obtain ⟨k, u⟩ := cell
    simp only [Memory.erase] at ih ⊢
    by_cases hka : k = a
    · subst hka
      by_cases hq : q = k
      · simp_all
      · have hne : ¬ k = q := fun h => hq h.symm
        simp [hq, hne, Memory.read, ih]
    · by_cases hkq : k = q
      · subst hkq
        simp [hka, Memory.read]
      · simp [hka, hkq, Memory.read, ih]

theorem Memory.read_insert (m : Memory) (a q : Nat) (v : Byte) (hm : ∀ cell ∈ m, cell.1 ≠ a) :
    Memory.read (Memory.insert m a v) q = if q = a then v else Memory.read m q := by
  induction m with
  | nil =>
    by_cases hq : q = a
    · subst hq; simp [Memory.insert, Memory.read]
    · have hne : ¬ a = q := fun e => hq e.symm
      simp [Memory.insert, Memory.read, hq, hne]
  | cons cell m ih =>
    obtain ⟨k, u⟩ := cell
    have hk : k ≠ a := hm (k, u) (by simp)
    have hm' : ∀ cell ∈ m, cell.1 ≠ a := fun c hc => hm c (by simp [hc])
    have ih' := ih hm'
    by_cases hlt : a < k
    · by_cases hq : q = a
      · subst hq; simp [Memory.insert, Memory.read, hlt]
      · have hne : ¬ a = q := fun e => hq e.symm
        simp [Memory.insert, Memory.read, hlt, hq, hne]
    · by_cases hkq : k = q
      · subst hkq; simp [Memory.insert, Memory.read, hlt, hk]
      · simp [Memory.insert, Memory.read, hlt, hkq, ih']

theorem Memory.erase_ne (m : Memory) (a : Nat) : ∀ cell ∈ Memory.erase m a, cell.1 ≠ a := by
  intro cell h
  simpa [Memory.erase] using (List.mem_filter.mp h).2

/-- A read after a write: the value written at its index, everything else as before. -/
theorem Memory.read_write (m : Memory) (a q : Nat) (v : Byte) :
    Memory.read (Memory.write m a v) q = if q = a then v else Memory.read m q := by
  unfold Memory.write
  by_cases hv : v = 0
  · simp [hv, Memory.read_erase]
  · rw [if_neg hv, Memory.read_insert _ _ _ _ (Memory.erase_ne m a), Memory.read_erase]
    by_cases hq : q = a <;> simp [hq]

@[simp] theorem Memory.read_write_same (m : Memory) (a : Nat) (v : Byte) :
    Memory.read (Memory.write m a v) a = v := by simp [Memory.read_write]

theorem Memory.read_write_other (m : Memory) {a q : Nat} (v : Byte) (h : q ≠ a) :
    Memory.read (Memory.write m a v) q = Memory.read m q := by simp [Memory.read_write, h]

/-- The canonical form, said of the list as a whole. -/
theorem Memory.wf_iff (m : Memory) :
    m.wf = true ↔ m.Pairwise (fun p q => p.1 < q.1) ∧ ∀ cell ∈ m, cell.2 ≠ 0 := by
  induction m with
  | nil => simp [Memory.wf]
  | cons cell m ih =>
    cases m with
    | nil => simp [Memory.wf]
    | cons cell' m =>
      obtain ⟨k, v⟩ := cell
      obtain ⟨k', v'⟩ := cell'
      simp only [Memory.wf, Bool.and_eq_true, bne_iff_ne, ne_eq, decide_eq_true_eq, ih]
      constructor
      · rintro ⟨⟨hv, hk⟩, hp, hz⟩
        refine ⟨List.pairwise_cons.mpr ⟨?_, hp⟩, ?_⟩
        · intro c hc
          rcases List.mem_cons.mp hc with rfl | hc
          · exact hk
          · exact lt_trans hk ((List.pairwise_cons.mp hp).1 c hc)
        · intro c hc
          rcases List.mem_cons.mp hc with rfl | hc
          · exact hv
          · exact hz c hc
      · rintro ⟨hp, hz⟩
        refine ⟨⟨hz (k, v) (by simp), (List.pairwise_cons.mp hp).1 (k', v') (by simp)⟩, (List.pairwise_cons.mp hp).2, ?_⟩
        exact fun c hc => hz c (List.mem_cons_of_mem _ hc)

theorem Memory.mem_insert (m : Memory) (a : Nat) (v : Byte) (cell : Host.Cell) :
    cell ∈ Memory.insert m a v ↔ cell = (a, v) ∨ cell ∈ m := by
  induction m with
  | nil => simp [Memory.insert]
  | cons c m ih =>
    obtain ⟨k, u⟩ := c
    by_cases h : a < k
    · simp [Memory.insert, h]
    · simp only [Memory.insert, h, if_false, List.mem_cons, ih]
      tauto

theorem Memory.insert_sorted (m : Memory) (a : Nat) (v : Byte) (hs : m.Pairwise (fun p q => p.1 < q.1))
    (hm : ∀ cell ∈ m, cell.1 ≠ a) : (Memory.insert m a v).Pairwise (fun p q => p.1 < q.1) := by
  induction m with
  | nil => simp [Memory.insert]
  | cons c m ih =>
    obtain ⟨k, u⟩ := c
    have hc := List.pairwise_cons.mp hs
    by_cases h : a < k
    · simp only [Memory.insert, h, if_true]
      refine List.pairwise_cons.mpr ⟨?_, hs⟩
      intro q hq
      rcases List.mem_cons.mp hq with rfl | hq
      · exact h
      · exact lt_trans h (hc.1 q hq)
    · simp only [Memory.insert, h, if_false]
      refine List.pairwise_cons.mpr ⟨?_, ih hc.2 (fun q hq => hm q (by simp [hq]))⟩
      intro q hq
      rcases (Memory.mem_insert m a v q).mp hq with rfl | hq
      · have := hm (k, u) (by simp)
        simp only at this ⊢
        omega
      · exact hc.1 q hq

/-- Every array operation keeps the canonical form. -/
theorem Memory.wf_write (m : Memory) (a : Nat) (v : Byte) (h : m.wf = true) : (Memory.write m a v).wf = true := by
  rw [Memory.wf_iff] at h ⊢
  have he : (Memory.erase m a).Pairwise (fun p q => p.1 < q.1) := h.1.filter _
  have hz : ∀ cell ∈ Memory.erase m a, cell.2 ≠ 0 := fun c hc => h.2 c (List.mem_filter.mp hc).1
  unfold Memory.write
  split
  · exact ⟨he, hz⟩
  · rename_i hv
    refine ⟨Memory.insert_sorted _ a v he (Memory.erase_ne m a), ?_⟩
    intro c hc
    rcases (Memory.mem_insert _ a v c).mp hc with rfl | hc
    · exact hv
    · exact hz c hc

theorem Memory.within_iff (n : Nat) (m : Memory) : Memory.within n m = true ↔ ∀ cell ∈ m, cell.1 < n := by
  simp [Memory.within]

/-- A write to a cell of the array keeps the list within the array. -/
theorem Memory.within_write (n : Nat) (m : Memory) (a : Nat) (v : Byte) (ha : a < n) (h : Memory.within n m = true) :
    Memory.within n (Memory.write m a v) = true := by
  rw [Memory.within_iff] at h ⊢
  intro c hc
  unfold Memory.write at hc
  split at hc
  · exact h c (List.mem_filter.mp hc).1
  · rcases (Memory.mem_insert _ a v c).mp hc with rfl | hc
    · exact ha
    · exact h c (List.mem_filter.mp hc).1

end Sys2Proof
end

