-- ==== Sys2Proof/Laws/State.lean ====
section
/-! SUPPORT. What each update of State leaves in each field, one lemma per field per update. -/

namespace Sys2Proof.Machine

@[simp] theorem State.setA_a (s : State) (v : Byte) : (s.setA v).a = v := rfl
@[simp] theorem State.setA_x (s : State) (v : Byte) : (s.setA v).x = s.x := rfl
@[simp] theorem State.setA_y (s : State) (v : Byte) : (s.setA v).y = s.y := rfl
@[simp] theorem State.setA_sp (s : State) (v : Byte) : (s.setA v).sp = s.sp := rfl
@[simp] theorem State.setA_pc (s : State) (v : Byte) : (s.setA v).pc = s.pc := rfl
@[simp] theorem State.setA_flags (s : State) (v : Byte) : (s.setA v).flags = s.flags := rfl
@[simp] theorem State.setA_ram (s : State) (v : Byte) : (s.setA v).ram = s.ram := rfl
@[simp] theorem State.setA_dram (s : State) (v : Byte) : (s.setA v).dram = s.dram := rfl
@[simp] theorem State.setA_engine (s : State) (v : Byte) : (s.setA v).engine = s.engine := rfl
@[simp] theorem State.setA_cond (s : State) (v : Byte) : (s.setA v).cond = s.cond := rfl
@[simp] theorem State.setA_mapper (s : State) (v : Byte) : (s.setA v).mapper = s.mapper := rfl
@[simp] theorem State.setA_prg (s : State) (v : Byte) : (s.setA v).prg = s.prg := rfl
@[simp] theorem State.setA_prgExtended (s : State) (v : Byte) : (s.setA v).prgExtended = s.prgExtended := rfl
@[simp] theorem State.setA_adcCarryIn (s : State) (v : Byte) : (s.setA v).adcCarryIn = s.adcCarryIn := rfl
@[simp] theorem State.setA_freeReads (s : State) (v : Byte) : (s.setA v).freeReads = s.freeReads := rfl

@[simp] theorem State.setX_a (s : State) (v : Byte) : (s.setX v).a = s.a := rfl
@[simp] theorem State.setX_x (s : State) (v : Byte) : (s.setX v).x = v := rfl
@[simp] theorem State.setX_y (s : State) (v : Byte) : (s.setX v).y = s.y := rfl
@[simp] theorem State.setX_sp (s : State) (v : Byte) : (s.setX v).sp = s.sp := rfl
@[simp] theorem State.setX_pc (s : State) (v : Byte) : (s.setX v).pc = s.pc := rfl
@[simp] theorem State.setX_flags (s : State) (v : Byte) : (s.setX v).flags = s.flags := rfl
@[simp] theorem State.setX_ram (s : State) (v : Byte) : (s.setX v).ram = s.ram := rfl
@[simp] theorem State.setX_dram (s : State) (v : Byte) : (s.setX v).dram = s.dram := rfl
@[simp] theorem State.setX_engine (s : State) (v : Byte) : (s.setX v).engine = s.engine := rfl
@[simp] theorem State.setX_cond (s : State) (v : Byte) : (s.setX v).cond = s.cond := rfl
@[simp] theorem State.setX_mapper (s : State) (v : Byte) : (s.setX v).mapper = s.mapper := rfl
@[simp] theorem State.setX_prg (s : State) (v : Byte) : (s.setX v).prg = s.prg := rfl
@[simp] theorem State.setX_prgExtended (s : State) (v : Byte) : (s.setX v).prgExtended = s.prgExtended := rfl
@[simp] theorem State.setX_adcCarryIn (s : State) (v : Byte) : (s.setX v).adcCarryIn = s.adcCarryIn := rfl
@[simp] theorem State.setX_freeReads (s : State) (v : Byte) : (s.setX v).freeReads = s.freeReads := rfl

@[simp] theorem State.setY_a (s : State) (v : Byte) : (s.setY v).a = s.a := rfl
@[simp] theorem State.setY_x (s : State) (v : Byte) : (s.setY v).x = s.x := rfl
@[simp] theorem State.setY_y (s : State) (v : Byte) : (s.setY v).y = v := rfl
@[simp] theorem State.setY_sp (s : State) (v : Byte) : (s.setY v).sp = s.sp := rfl
@[simp] theorem State.setY_pc (s : State) (v : Byte) : (s.setY v).pc = s.pc := rfl
@[simp] theorem State.setY_flags (s : State) (v : Byte) : (s.setY v).flags = s.flags := rfl
@[simp] theorem State.setY_ram (s : State) (v : Byte) : (s.setY v).ram = s.ram := rfl
@[simp] theorem State.setY_dram (s : State) (v : Byte) : (s.setY v).dram = s.dram := rfl
@[simp] theorem State.setY_engine (s : State) (v : Byte) : (s.setY v).engine = s.engine := rfl
@[simp] theorem State.setY_cond (s : State) (v : Byte) : (s.setY v).cond = s.cond := rfl
@[simp] theorem State.setY_mapper (s : State) (v : Byte) : (s.setY v).mapper = s.mapper := rfl
@[simp] theorem State.setY_prg (s : State) (v : Byte) : (s.setY v).prg = s.prg := rfl
@[simp] theorem State.setY_prgExtended (s : State) (v : Byte) : (s.setY v).prgExtended = s.prgExtended := rfl
@[simp] theorem State.setY_adcCarryIn (s : State) (v : Byte) : (s.setY v).adcCarryIn = s.adcCarryIn := rfl
@[simp] theorem State.setY_freeReads (s : State) (v : Byte) : (s.setY v).freeReads = s.freeReads := rfl

@[simp] theorem State.setSP_a (s : State) (v : Byte) : (s.setSP v).a = s.a := rfl
@[simp] theorem State.setSP_x (s : State) (v : Byte) : (s.setSP v).x = s.x := rfl
@[simp] theorem State.setSP_y (s : State) (v : Byte) : (s.setSP v).y = s.y := rfl
@[simp] theorem State.setSP_sp (s : State) (v : Byte) : (s.setSP v).sp = v := rfl
@[simp] theorem State.setSP_pc (s : State) (v : Byte) : (s.setSP v).pc = s.pc := rfl
@[simp] theorem State.setSP_flags (s : State) (v : Byte) : (s.setSP v).flags = s.flags := rfl
@[simp] theorem State.setSP_ram (s : State) (v : Byte) : (s.setSP v).ram = s.ram := rfl
@[simp] theorem State.setSP_dram (s : State) (v : Byte) : (s.setSP v).dram = s.dram := rfl
@[simp] theorem State.setSP_engine (s : State) (v : Byte) : (s.setSP v).engine = s.engine := rfl
@[simp] theorem State.setSP_cond (s : State) (v : Byte) : (s.setSP v).cond = s.cond := rfl
@[simp] theorem State.setSP_mapper (s : State) (v : Byte) : (s.setSP v).mapper = s.mapper := rfl
@[simp] theorem State.setSP_prg (s : State) (v : Byte) : (s.setSP v).prg = s.prg := rfl
@[simp] theorem State.setSP_prgExtended (s : State) (v : Byte) : (s.setSP v).prgExtended = s.prgExtended := rfl
@[simp] theorem State.setSP_adcCarryIn (s : State) (v : Byte) : (s.setSP v).adcCarryIn = s.adcCarryIn := rfl
@[simp] theorem State.setSP_freeReads (s : State) (v : Byte) : (s.setSP v).freeReads = s.freeReads := rfl

@[simp] theorem State.setPC_a (s : State) (w : Addr) : (s.setPC w).a = s.a := rfl
@[simp] theorem State.setPC_x (s : State) (w : Addr) : (s.setPC w).x = s.x := rfl
@[simp] theorem State.setPC_y (s : State) (w : Addr) : (s.setPC w).y = s.y := rfl
@[simp] theorem State.setPC_sp (s : State) (w : Addr) : (s.setPC w).sp = s.sp := rfl
@[simp] theorem State.setPC_pc (s : State) (w : Addr) : (s.setPC w).pc = w := rfl
@[simp] theorem State.setPC_flags (s : State) (w : Addr) : (s.setPC w).flags = s.flags := rfl
@[simp] theorem State.setPC_ram (s : State) (w : Addr) : (s.setPC w).ram = s.ram := rfl
@[simp] theorem State.setPC_dram (s : State) (w : Addr) : (s.setPC w).dram = s.dram := rfl
@[simp] theorem State.setPC_engine (s : State) (w : Addr) : (s.setPC w).engine = s.engine := rfl
@[simp] theorem State.setPC_cond (s : State) (w : Addr) : (s.setPC w).cond = s.cond := rfl
@[simp] theorem State.setPC_mapper (s : State) (w : Addr) : (s.setPC w).mapper = s.mapper := rfl
@[simp] theorem State.setPC_prg (s : State) (w : Addr) : (s.setPC w).prg = s.prg := rfl
@[simp] theorem State.setPC_prgExtended (s : State) (w : Addr) : (s.setPC w).prgExtended = s.prgExtended := rfl
@[simp] theorem State.setPC_adcCarryIn (s : State) (w : Addr) : (s.setPC w).adcCarryIn = s.adcCarryIn := rfl
@[simp] theorem State.setPC_freeReads (s : State) (w : Addr) : (s.setPC w).freeReads = s.freeReads := rfl

@[simp] theorem State.setFlags_a (s : State) (f : Flags) : (s.setFlags f).a = s.a := rfl
@[simp] theorem State.setFlags_x (s : State) (f : Flags) : (s.setFlags f).x = s.x := rfl
@[simp] theorem State.setFlags_y (s : State) (f : Flags) : (s.setFlags f).y = s.y := rfl
@[simp] theorem State.setFlags_sp (s : State) (f : Flags) : (s.setFlags f).sp = s.sp := rfl
@[simp] theorem State.setFlags_pc (s : State) (f : Flags) : (s.setFlags f).pc = s.pc := rfl
@[simp] theorem State.setFlags_flags (s : State) (f : Flags) : (s.setFlags f).flags = f := rfl
@[simp] theorem State.setFlags_ram (s : State) (f : Flags) : (s.setFlags f).ram = s.ram := rfl
@[simp] theorem State.setFlags_dram (s : State) (f : Flags) : (s.setFlags f).dram = s.dram := rfl
@[simp] theorem State.setFlags_engine (s : State) (f : Flags) : (s.setFlags f).engine = s.engine := rfl
@[simp] theorem State.setFlags_cond (s : State) (f : Flags) : (s.setFlags f).cond = s.cond := rfl
@[simp] theorem State.setFlags_mapper (s : State) (f : Flags) : (s.setFlags f).mapper = s.mapper := rfl
@[simp] theorem State.setFlags_prg (s : State) (f : Flags) : (s.setFlags f).prg = s.prg := rfl
@[simp] theorem State.setFlags_prgExtended (s : State) (f : Flags) : (s.setFlags f).prgExtended = s.prgExtended := rfl
@[simp] theorem State.setFlags_adcCarryIn (s : State) (f : Flags) : (s.setFlags f).adcCarryIn = s.adcCarryIn := rfl
@[simp] theorem State.setFlags_freeReads (s : State) (f : Flags) : (s.setFlags f).freeReads = s.freeReads := rfl

@[simp] theorem State.setRAM_a (s : State) (m : Memory) : (s.setRAM m).a = s.a := rfl
@[simp] theorem State.setRAM_x (s : State) (m : Memory) : (s.setRAM m).x = s.x := rfl
@[simp] theorem State.setRAM_y (s : State) (m : Memory) : (s.setRAM m).y = s.y := rfl
@[simp] theorem State.setRAM_sp (s : State) (m : Memory) : (s.setRAM m).sp = s.sp := rfl
@[simp] theorem State.setRAM_pc (s : State) (m : Memory) : (s.setRAM m).pc = s.pc := rfl
@[simp] theorem State.setRAM_flags (s : State) (m : Memory) : (s.setRAM m).flags = s.flags := rfl
@[simp] theorem State.setRAM_ram (s : State) (m : Memory) : (s.setRAM m).ram = m := rfl
@[simp] theorem State.setRAM_dram (s : State) (m : Memory) : (s.setRAM m).dram = s.dram := rfl
@[simp] theorem State.setRAM_engine (s : State) (m : Memory) : (s.setRAM m).engine = s.engine := rfl
@[simp] theorem State.setRAM_cond (s : State) (m : Memory) : (s.setRAM m).cond = s.cond := rfl
@[simp] theorem State.setRAM_mapper (s : State) (m : Memory) : (s.setRAM m).mapper = s.mapper := rfl
@[simp] theorem State.setRAM_prg (s : State) (m : Memory) : (s.setRAM m).prg = s.prg := rfl
@[simp] theorem State.setRAM_prgExtended (s : State) (m : Memory) : (s.setRAM m).prgExtended = s.prgExtended := rfl
@[simp] theorem State.setRAM_adcCarryIn (s : State) (m : Memory) : (s.setRAM m).adcCarryIn = s.adcCarryIn := rfl
@[simp] theorem State.setRAM_freeReads (s : State) (m : Memory) : (s.setRAM m).freeReads = s.freeReads := rfl

@[simp] theorem State.setDRAM_a (s : State) (m : Memory) : (s.setDRAM m).a = s.a := rfl
@[simp] theorem State.setDRAM_x (s : State) (m : Memory) : (s.setDRAM m).x = s.x := rfl
@[simp] theorem State.setDRAM_y (s : State) (m : Memory) : (s.setDRAM m).y = s.y := rfl
@[simp] theorem State.setDRAM_sp (s : State) (m : Memory) : (s.setDRAM m).sp = s.sp := rfl
@[simp] theorem State.setDRAM_pc (s : State) (m : Memory) : (s.setDRAM m).pc = s.pc := rfl
@[simp] theorem State.setDRAM_flags (s : State) (m : Memory) : (s.setDRAM m).flags = s.flags := rfl
@[simp] theorem State.setDRAM_ram (s : State) (m : Memory) : (s.setDRAM m).ram = s.ram := rfl
@[simp] theorem State.setDRAM_dram (s : State) (m : Memory) : (s.setDRAM m).dram = m := rfl
@[simp] theorem State.setDRAM_engine (s : State) (m : Memory) : (s.setDRAM m).engine = s.engine := rfl
@[simp] theorem State.setDRAM_cond (s : State) (m : Memory) : (s.setDRAM m).cond = s.cond := rfl
@[simp] theorem State.setDRAM_mapper (s : State) (m : Memory) : (s.setDRAM m).mapper = s.mapper := rfl
@[simp] theorem State.setDRAM_prg (s : State) (m : Memory) : (s.setDRAM m).prg = s.prg := rfl
@[simp] theorem State.setDRAM_prgExtended (s : State) (m : Memory) : (s.setDRAM m).prgExtended = s.prgExtended := rfl
@[simp] theorem State.setDRAM_adcCarryIn (s : State) (m : Memory) : (s.setDRAM m).adcCarryIn = s.adcCarryIn := rfl
@[simp] theorem State.setDRAM_freeReads (s : State) (m : Memory) : (s.setDRAM m).freeReads = s.freeReads := rfl

@[simp] theorem State.setPRG_a (s : State) (m : Memory) : (s.setPRG m).a = s.a := rfl
@[simp] theorem State.setPRG_x (s : State) (m : Memory) : (s.setPRG m).x = s.x := rfl
@[simp] theorem State.setPRG_y (s : State) (m : Memory) : (s.setPRG m).y = s.y := rfl
@[simp] theorem State.setPRG_sp (s : State) (m : Memory) : (s.setPRG m).sp = s.sp := rfl
@[simp] theorem State.setPRG_pc (s : State) (m : Memory) : (s.setPRG m).pc = s.pc := rfl
@[simp] theorem State.setPRG_flags (s : State) (m : Memory) : (s.setPRG m).flags = s.flags := rfl
@[simp] theorem State.setPRG_ram (s : State) (m : Memory) : (s.setPRG m).ram = s.ram := rfl
@[simp] theorem State.setPRG_dram (s : State) (m : Memory) : (s.setPRG m).dram = s.dram := rfl
@[simp] theorem State.setPRG_engine (s : State) (m : Memory) : (s.setPRG m).engine = s.engine := rfl
@[simp] theorem State.setPRG_cond (s : State) (m : Memory) : (s.setPRG m).cond = s.cond := rfl
@[simp] theorem State.setPRG_mapper (s : State) (m : Memory) : (s.setPRG m).mapper = s.mapper := rfl
@[simp] theorem State.setPRG_prg (s : State) (m : Memory) : (s.setPRG m).prg = m := rfl
@[simp] theorem State.setPRG_prgExtended (s : State) (m : Memory) : (s.setPRG m).prgExtended = s.prgExtended := rfl
@[simp] theorem State.setPRG_adcCarryIn (s : State) (m : Memory) : (s.setPRG m).adcCarryIn = s.adcCarryIn := rfl
@[simp] theorem State.setPRG_freeReads (s : State) (m : Memory) : (s.setPRG m).freeReads = s.freeReads := rfl

@[simp] theorem State.setEngine_a (s : State) (e : Engine) : (s.setEngine e).a = s.a := rfl
@[simp] theorem State.setEngine_x (s : State) (e : Engine) : (s.setEngine e).x = s.x := rfl
@[simp] theorem State.setEngine_y (s : State) (e : Engine) : (s.setEngine e).y = s.y := rfl
@[simp] theorem State.setEngine_sp (s : State) (e : Engine) : (s.setEngine e).sp = s.sp := rfl
@[simp] theorem State.setEngine_pc (s : State) (e : Engine) : (s.setEngine e).pc = s.pc := rfl
@[simp] theorem State.setEngine_flags (s : State) (e : Engine) : (s.setEngine e).flags = s.flags := rfl
@[simp] theorem State.setEngine_ram (s : State) (e : Engine) : (s.setEngine e).ram = s.ram := rfl
@[simp] theorem State.setEngine_dram (s : State) (e : Engine) : (s.setEngine e).dram = s.dram := rfl
@[simp] theorem State.setEngine_engine (s : State) (e : Engine) : (s.setEngine e).engine = e := rfl
@[simp] theorem State.setEngine_cond (s : State) (e : Engine) : (s.setEngine e).cond = s.cond := rfl
@[simp] theorem State.setEngine_mapper (s : State) (e : Engine) : (s.setEngine e).mapper = s.mapper := rfl
@[simp] theorem State.setEngine_prg (s : State) (e : Engine) : (s.setEngine e).prg = s.prg := rfl
@[simp] theorem State.setEngine_prgExtended (s : State) (e : Engine) : (s.setEngine e).prgExtended = s.prgExtended := rfl
@[simp] theorem State.setEngine_adcCarryIn (s : State) (e : Engine) : (s.setEngine e).adcCarryIn = s.adcCarryIn := rfl
@[simp] theorem State.setEngine_freeReads (s : State) (e : Engine) : (s.setEngine e).freeReads = s.freeReads := rfl

@[simp] theorem State.report_a (s : State) (c : Condition) : (s.report c).a = s.a := rfl
@[simp] theorem State.report_x (s : State) (c : Condition) : (s.report c).x = s.x := rfl
@[simp] theorem State.report_y (s : State) (c : Condition) : (s.report c).y = s.y := rfl
@[simp] theorem State.report_sp (s : State) (c : Condition) : (s.report c).sp = s.sp := rfl
@[simp] theorem State.report_pc (s : State) (c : Condition) : (s.report c).pc = s.pc := rfl
@[simp] theorem State.report_flags (s : State) (c : Condition) : (s.report c).flags = s.flags := rfl
@[simp] theorem State.report_ram (s : State) (c : Condition) : (s.report c).ram = s.ram := rfl
@[simp] theorem State.report_dram (s : State) (c : Condition) : (s.report c).dram = s.dram := rfl
@[simp] theorem State.report_engine (s : State) (c : Condition) : (s.report c).engine = s.engine := rfl
@[simp] theorem State.report_cond (s : State) (c : Condition) : (s.report c).cond = c := rfl
@[simp] theorem State.report_mapper (s : State) (c : Condition) : (s.report c).mapper = s.mapper := rfl
@[simp] theorem State.report_prg (s : State) (c : Condition) : (s.report c).prg = s.prg := rfl
@[simp] theorem State.report_prgExtended (s : State) (c : Condition) : (s.report c).prgExtended = s.prgExtended := rfl
@[simp] theorem State.report_adcCarryIn (s : State) (c : Condition) : (s.report c).adcCarryIn = s.adcCarryIn := rfl
@[simp] theorem State.report_freeReads (s : State) (c : Condition) : (s.report c).freeReads = s.freeReads := rfl

@[simp] theorem State.useFreeRead_a (s : State) : (s.useFreeRead).a = s.a := rfl
@[simp] theorem State.useFreeRead_x (s : State) : (s.useFreeRead).x = s.x := rfl
@[simp] theorem State.useFreeRead_y (s : State) : (s.useFreeRead).y = s.y := rfl
@[simp] theorem State.useFreeRead_sp (s : State) : (s.useFreeRead).sp = s.sp := rfl
@[simp] theorem State.useFreeRead_pc (s : State) : (s.useFreeRead).pc = s.pc := rfl
@[simp] theorem State.useFreeRead_flags (s : State) : (s.useFreeRead).flags = s.flags := rfl
@[simp] theorem State.useFreeRead_ram (s : State) : (s.useFreeRead).ram = s.ram := rfl
@[simp] theorem State.useFreeRead_dram (s : State) : (s.useFreeRead).dram = s.dram := rfl
@[simp] theorem State.useFreeRead_engine (s : State) : (s.useFreeRead).engine = s.engine := rfl
@[simp] theorem State.useFreeRead_cond (s : State) : (s.useFreeRead).cond = s.cond := rfl
@[simp] theorem State.useFreeRead_mapper (s : State) : (s.useFreeRead).mapper = s.mapper := rfl
@[simp] theorem State.useFreeRead_prg (s : State) : (s.useFreeRead).prg = s.prg := rfl
@[simp] theorem State.useFreeRead_prgExtended (s : State) : (s.useFreeRead).prgExtended = s.prgExtended := rfl
@[simp] theorem State.useFreeRead_adcCarryIn (s : State) : (s.useFreeRead).adcCarryIn = s.adcCarryIn := rfl
@[simp] theorem State.useFreeRead_freeReads (s : State) : (s.useFreeRead).freeReads = s.freeReads + 1 := rfl

@[simp] theorem State.advancePC_a (s : State) (n : Nat) : (s.advancePC n).a = s.a := rfl
@[simp] theorem State.advancePC_x (s : State) (n : Nat) : (s.advancePC n).x = s.x := rfl
@[simp] theorem State.advancePC_y (s : State) (n : Nat) : (s.advancePC n).y = s.y := rfl
@[simp] theorem State.advancePC_sp (s : State) (n : Nat) : (s.advancePC n).sp = s.sp := rfl
@[simp] theorem State.advancePC_pc (s : State) (n : Nat) : (s.advancePC n).pc = s.pc + BitVec.ofNat 16 n := rfl
@[simp] theorem State.advancePC_flags (s : State) (n : Nat) : (s.advancePC n).flags = s.flags := rfl
@[simp] theorem State.advancePC_ram (s : State) (n : Nat) : (s.advancePC n).ram = s.ram := rfl
@[simp] theorem State.advancePC_dram (s : State) (n : Nat) : (s.advancePC n).dram = s.dram := rfl
@[simp] theorem State.advancePC_engine (s : State) (n : Nat) : (s.advancePC n).engine = s.engine := rfl
@[simp] theorem State.advancePC_cond (s : State) (n : Nat) : (s.advancePC n).cond = s.cond := rfl
@[simp] theorem State.advancePC_mapper (s : State) (n : Nat) : (s.advancePC n).mapper = s.mapper := rfl
@[simp] theorem State.advancePC_prg (s : State) (n : Nat) : (s.advancePC n).prg = s.prg := rfl
@[simp] theorem State.advancePC_prgExtended (s : State) (n : Nat) : (s.advancePC n).prgExtended = s.prgExtended := rfl
@[simp] theorem State.advancePC_adcCarryIn (s : State) (n : Nat) : (s.advancePC n).adcCarryIn = s.adcCarryIn := rfl
@[simp] theorem State.advancePC_freeReads (s : State) (n : Nat) : (s.advancePC n).freeReads = s.freeReads := rfl

@[simp] theorem Flags.setNZ_n (f : Flags) (r : Byte) : (f.setNZ r).n = r.msb := rfl
@[simp] theorem Flags.setNZ_v (f : Flags) (r : Byte) : (f.setNZ r).v = f.v := rfl
@[simp] theorem Flags.setNZ_b (f : Flags) (r : Byte) : (f.setNZ r).b = f.b := rfl
@[simp] theorem Flags.setNZ_d (f : Flags) (r : Byte) : (f.setNZ r).d = f.d := rfl
@[simp] theorem Flags.setNZ_i (f : Flags) (r : Byte) : (f.setNZ r).i = f.i := rfl
@[simp] theorem Flags.setNZ_z (f : Flags) (r : Byte) : (f.setNZ r).z = (r == 0) := rfl
@[simp] theorem Flags.setNZ_c (f : Flags) (r : Byte) : (f.setNZ r).c = f.c := rfl

@[simp] theorem Flags.setC_n (f : Flags) (c : Bool) : (f.setC c).n = f.n := rfl
@[simp] theorem Flags.setC_v (f : Flags) (c : Bool) : (f.setC c).v = f.v := rfl
@[simp] theorem Flags.setC_b (f : Flags) (c : Bool) : (f.setC c).b = f.b := rfl
@[simp] theorem Flags.setC_d (f : Flags) (c : Bool) : (f.setC c).d = f.d := rfl
@[simp] theorem Flags.setC_i (f : Flags) (c : Bool) : (f.setC c).i = f.i := rfl
@[simp] theorem Flags.setC_z (f : Flags) (c : Bool) : (f.setC c).z = f.z := rfl
@[simp] theorem Flags.setC_c (f : Flags) (c : Bool) : (f.setC c).c = c := rfl

@[simp] theorem Flags.setV_n (f : Flags) (v : Bool) : (f.setV v).n = f.n := rfl
@[simp] theorem Flags.setV_v (f : Flags) (v : Bool) : (f.setV v).v = v := rfl
@[simp] theorem Flags.setV_b (f : Flags) (v : Bool) : (f.setV v).b = f.b := rfl
@[simp] theorem Flags.setV_d (f : Flags) (v : Bool) : (f.setV v).d = f.d := rfl
@[simp] theorem Flags.setV_i (f : Flags) (v : Bool) : (f.setV v).i = f.i := rfl
@[simp] theorem Flags.setV_z (f : Flags) (v : Bool) : (f.setV v).z = f.z := rfl
@[simp] theorem Flags.setV_c (f : Flags) (v : Bool) : (f.setV v).c = f.c := rfl

@[simp] theorem Flags.setD_n (f : Flags) (d : Bool) : (f.setD d).n = f.n := rfl
@[simp] theorem Flags.setD_v (f : Flags) (d : Bool) : (f.setD d).v = f.v := rfl
@[simp] theorem Flags.setD_b (f : Flags) (d : Bool) : (f.setD d).b = f.b := rfl
@[simp] theorem Flags.setD_d (f : Flags) (d : Bool) : (f.setD d).d = d := rfl
@[simp] theorem Flags.setD_i (f : Flags) (d : Bool) : (f.setD d).i = f.i := rfl
@[simp] theorem Flags.setD_z (f : Flags) (d : Bool) : (f.setD d).z = f.z := rfl
@[simp] theorem Flags.setD_c (f : Flags) (d : Bool) : (f.setD d).c = f.c := rfl

@[simp] theorem Flags.setI_n (f : Flags) (i : Bool) : (f.setI i).n = f.n := rfl
@[simp] theorem Flags.setI_v (f : Flags) (i : Bool) : (f.setI i).v = f.v := rfl
@[simp] theorem Flags.setI_b (f : Flags) (i : Bool) : (f.setI i).b = f.b := rfl
@[simp] theorem Flags.setI_d (f : Flags) (i : Bool) : (f.setI i).d = f.d := rfl
@[simp] theorem Flags.setI_i (f : Flags) (i : Bool) : (f.setI i).i = i := rfl
@[simp] theorem Flags.setI_z (f : Flags) (i : Bool) : (f.setI i).z = f.z := rfl
@[simp] theorem Flags.setI_c (f : Flags) (i : Bool) : (f.setI i).c = f.c := rfl

@[simp] theorem Flags.setB_n (f : Flags) (b : Bool) : (f.setB b).n = f.n := rfl
@[simp] theorem Flags.setB_v (f : Flags) (b : Bool) : (f.setB b).v = f.v := rfl
@[simp] theorem Flags.setB_b (f : Flags) (b : Bool) : (f.setB b).b = b := rfl
@[simp] theorem Flags.setB_d (f : Flags) (b : Bool) : (f.setB b).d = f.d := rfl
@[simp] theorem Flags.setB_i (f : Flags) (b : Bool) : (f.setB b).i = f.i := rfl
@[simp] theorem Flags.setB_z (f : Flags) (b : Bool) : (f.setB b).z = f.z := rfl
@[simp] theorem Flags.setB_c (f : Flags) (b : Bool) : (f.setB b).c = f.c := rfl

@[simp] theorem Flags.setCompare_n (f : Flags) (c z n : Bool) : (f.setCompare c z n).n = n := rfl
@[simp] theorem Flags.setCompare_v (f : Flags) (c z n : Bool) : (f.setCompare c z n).v = f.v := rfl
@[simp] theorem Flags.setCompare_b (f : Flags) (c z n : Bool) : (f.setCompare c z n).b = f.b := rfl
@[simp] theorem Flags.setCompare_d (f : Flags) (c z n : Bool) : (f.setCompare c z n).d = f.d := rfl
@[simp] theorem Flags.setCompare_i (f : Flags) (c z n : Bool) : (f.setCompare c z n).i = f.i := rfl
@[simp] theorem Flags.setCompare_z (f : Flags) (c z n : Bool) : (f.setCompare c z n).z = z := rfl
@[simp] theorem Flags.setCompare_c (f : Flags) (c z n : Bool) : (f.setCompare c z n).c = c := rfl

end Sys2Proof.Machine
end

