-- ==== Sys2Proof/Laws/Ops.lean ====
section
/-! SUPPORT. What each operation of Machine/Ops.lean can do, said once: the fields it leaves alone, and where an address goes. -/

namespace Sys2Proof.Machine

/-! ### The address decoder (R32) -/

theorem regionOf_ram {p : Addr} (h : p.toNat ≤ 0x1FFF) : regionOf p = .ram := by simp [regionOf, h]

theorem regionOf_eq_ram_iff (p : Addr) : regionOf p = .ram ↔ p.toNat ≤ 0x1FFF := by
  unfold regionOf; split <;> [simp_all; (split <;> [simp_all; (split <;> simp_all)])]

theorem regionOf_stub {p : Addr} (h1 : 0x2000 ≤ p.toNat) (h2 : p.toNat ≤ 0x401F) :
    regionOf p = .ppuStub ∨ regionOf p = .apuStub := by
  have h : ¬ p.toNat ≤ 0x1FFF := by omega
  by_cases h3 : p.toNat ≤ 0x3FFF <;> simp [regionOf, h, h2, h3]

theorem regionOf_cartridge {p : Addr} (h : 0x4020 ≤ p.toNat) : regionOf p = .cartridge := by
  have h1 : ¬ p.toNat ≤ 0x1FFF := by omega
  have h2 : ¬ p.toNat ≤ 0x3FFF := by omega
  have h3 : ¬ p.toNat ≤ 0x401F := by omega
  simp [regionOf, h1, h2, h3]

theorem regionOf_eq_cartridge_iff (p : Addr) : regionOf p = .cartridge ↔ 0x4020 ≤ p.toNat := by
  constructor
  · intro h
    by_contra hlt
    by_cases h1 : p.toNat ≤ 0x1FFF
    · simp [regionOf_ram h1] at h
    · rcases regionOf_stub (p := p) (by omega) (by omega) with h' | h' <;> simp [h'] at h
  · exact regionOf_cartridge

theorem ramIndex_lt (p : Addr) : ramIndex p < 0x800 := Nat.mod_lt _ (by decide)

/-! ### Reads (R31, R33 to R41) -/

theorem peek_ram {p : Addr} (s : State) (h : p.toNat ≤ 0x1FFF) : s.peek p = some (s.ram.read (ramIndex p)) := by
  simp [State.peek, regionOf_ram h]

theorem peek_stub {p : Addr} (s : State) (h1 : 0x2000 ≤ p.toNat) (h2 : p.toNat ≤ 0x401F) : s.peek p = some 0 := by
  rcases regionOf_stub h1 h2 with h | h <;> simp [State.peek, h]

theorem peek_cartridge {p : Addr} (s : State) (h : 0x4020 ≤ p.toNat) : s.peek p = peekPRG s p := by
  simp [State.peek, regionOf_cartridge h]

/-- What a read of an address sees depends on the memories and the mapper alone. -/
theorem peek_congr {s t : State} (p : Addr) (hr : t.ram = s.ram) (hd : t.dram = s.dram) (hm : t.mapper = s.mapper)
    (hp : t.prg = s.prg) (he : t.prgExtended = s.prgExtended) : t.peek p = s.peek p := by
  simp [State.peek, peekPRG, hr, hd, hm, hp, he]

/-- A read of a byte the spec states answers it and changes nothing (R46). -/
theorem memRead_of_peek {p : Addr} {s : State} {v : Byte} (h : s.peek p = some v) : memRead p s = (v, s) := by
  simp [memRead, h]

/-- A read of an unspecified byte answers the next free value (R40). -/
theorem memRead_of_free {p : Addr} {s : State} (h : s.peek p = none) :
    memRead p s = (Config.nromLowRead s.freeReads, s.useFreeRead) := by
  simp [memRead, h]

theorem memRead_of_ram {p : Addr} (s : State) (h : p.toNat ≤ 0x1FFF) :
    memRead p s = (s.ram.read (ramIndex p), s) := memRead_of_peek (peek_ram s h)

/-- A read changes nothing but the count of free reads (R46). -/
theorem memRead_state (p : Addr) (s : State) : (memRead p s).2 = { s with freeReads := (memRead p s).2.freeReads } := by
  unfold memRead; split <;> rfl

/-- Two reads in a row change nothing but the count of free reads (R43, R46). -/
theorem readWord_state (p : Addr) (s : State) :
    (readWord p s).2 = { s with freeReads := (readWord p s).2.freeReads } := by
  unfold readWord
  simp only
  rw [memRead_state (p + 1), memRead_state p]

/-- A word whose two bytes the spec states is read little-endian and changes nothing (R43). -/
theorem readWord_of_peek {p : Addr} {s : State} {lo hi : Byte} (h1 : s.peek p = some lo) (h2 : s.peek (p + 1) = some hi) :
    readWord p s = (word16 hi lo, s) := by
  simp only [readWord, memRead_of_peek h1]
  rw [memRead_of_peek h2]

/-- A pointer of IndirectX or IndirectY lies in RAM, and so does the byte after it (R89, R90). -/
theorem readWord_of_ram {p : Addr} (s : State) (h : p.toNat < 0x1FFF) :
    readWord p s = (word16 (s.ram.read (ramIndex (p + 1))) (s.ram.read (ramIndex p)), s) := by
  have h1 : (p + 1).toNat ≤ 0x1FFF := by
    have : (p + 1).toNat = p.toNat + 1 := by
      rw [BitVec.toNat_add]; simp; omega
    omega
  exact readWord_of_peek (peek_ram s (by omega)) (peek_ram s h1)

@[simp] theorem memRead_a (p : Addr) (s : State) : (memRead p s).2.a = s.a := by rw [memRead_state]

@[simp] theorem readWord_a (p : Addr) (s : State) : (readWord p s).2.a = s.a := by rw [readWord_state]

@[simp] theorem memRead_x (p : Addr) (s : State) : (memRead p s).2.x = s.x := by rw [memRead_state]

@[simp] theorem readWord_x (p : Addr) (s : State) : (readWord p s).2.x = s.x := by rw [readWord_state]

@[simp] theorem memRead_y (p : Addr) (s : State) : (memRead p s).2.y = s.y := by rw [memRead_state]

@[simp] theorem readWord_y (p : Addr) (s : State) : (readWord p s).2.y = s.y := by rw [readWord_state]

@[simp] theorem memRead_sp (p : Addr) (s : State) : (memRead p s).2.sp = s.sp := by rw [memRead_state]

@[simp] theorem readWord_sp (p : Addr) (s : State) : (readWord p s).2.sp = s.sp := by rw [readWord_state]

@[simp] theorem memRead_pc (p : Addr) (s : State) : (memRead p s).2.pc = s.pc := by rw [memRead_state]

@[simp] theorem readWord_pc (p : Addr) (s : State) : (readWord p s).2.pc = s.pc := by rw [readWord_state]

@[simp] theorem memRead_flags (p : Addr) (s : State) : (memRead p s).2.flags = s.flags := by rw [memRead_state]

@[simp] theorem readWord_flags (p : Addr) (s : State) : (readWord p s).2.flags = s.flags := by rw [readWord_state]

@[simp] theorem memRead_ram (p : Addr) (s : State) : (memRead p s).2.ram = s.ram := by rw [memRead_state]

@[simp] theorem readWord_ram (p : Addr) (s : State) : (readWord p s).2.ram = s.ram := by rw [readWord_state]

@[simp] theorem memRead_dram (p : Addr) (s : State) : (memRead p s).2.dram = s.dram := by rw [memRead_state]

@[simp] theorem readWord_dram (p : Addr) (s : State) : (readWord p s).2.dram = s.dram := by rw [readWord_state]

@[simp] theorem memRead_engine (p : Addr) (s : State) : (memRead p s).2.engine = s.engine := by rw [memRead_state]

@[simp] theorem readWord_engine (p : Addr) (s : State) : (readWord p s).2.engine = s.engine := by rw [readWord_state]

@[simp] theorem memRead_cond (p : Addr) (s : State) : (memRead p s).2.cond = s.cond := by rw [memRead_state]

@[simp] theorem readWord_cond (p : Addr) (s : State) : (readWord p s).2.cond = s.cond := by rw [readWord_state]

@[simp] theorem memRead_mapper (p : Addr) (s : State) : (memRead p s).2.mapper = s.mapper := by rw [memRead_state]

@[simp] theorem readWord_mapper (p : Addr) (s : State) : (readWord p s).2.mapper = s.mapper := by rw [readWord_state]

@[simp] theorem memRead_prg (p : Addr) (s : State) : (memRead p s).2.prg = s.prg := by rw [memRead_state]

@[simp] theorem readWord_prg (p : Addr) (s : State) : (readWord p s).2.prg = s.prg := by rw [readWord_state]

@[simp] theorem memRead_prgExtended (p : Addr) (s : State) : (memRead p s).2.prgExtended = s.prgExtended := by rw [memRead_state]

@[simp] theorem readWord_prgExtended (p : Addr) (s : State) : (readWord p s).2.prgExtended = s.prgExtended := by rw [readWord_state]

@[simp] theorem memRead_adcCarryIn (p : Addr) (s : State) : (memRead p s).2.adcCarryIn = s.adcCarryIn := by rw [memRead_state]

@[simp] theorem readWord_adcCarryIn (p : Addr) (s : State) : (readWord p s).2.adcCarryIn = s.adcCarryIn := by rw [readWord_state]

@[simp] theorem memRead_peek (p q : Addr) (s : State) : (memRead p s).2.peek q = s.peek q := by
  rw [memRead_state]; apply peek_congr <;> rfl

@[simp] theorem readWord_peek (p q : Addr) (s : State) : (readWord p s).2.peek q = s.peek q := by
  rw [readWord_state]; apply peek_congr <;> rfl

/-- What a read answers, and how many free values it takes, depends on what its address reads as alone (R46). -/
theorem memRead_congr {s t : State} {p : Addr} (hp : t.peek p = s.peek p) (hf : t.freeReads = s.freeReads) :
    (memRead p t).1 = (memRead p s).1 ∧ (memRead p t).2.freeReads = (memRead p s).2.freeReads := by
  unfold memRead
  rw [hp, hf]
  cases s.peek p <;> simp [hf]

/-- The same of a word (R43). -/
theorem readWord_congr {s t : State} {p : Addr} (h0 : t.peek p = s.peek p) (h1 : t.peek (p + 1) = s.peek (p + 1))
    (hf : t.freeReads = s.freeReads) :
    (readWord p t).1 = (readWord p s).1 ∧ (readWord p t).2.freeReads = (readWord p s).2.freeReads := by
  have a := memRead_congr h0 hf
  have b := memRead_congr (s := (memRead p s).2) (t := (memRead p t).2) (p := p + 1) (by simpa using h1) a.2
  exact ⟨by simp only [readWord, a.1, b.1], b.2⟩

/-! ### Writes (R31, R33 to R41) -/

theorem memWrite_ram {p : Addr} (v : Byte) (s : State) (h : p.toNat ≤ 0x1FFF) :
    memWrite p v s = s.setRAM (s.ram.write (ramIndex p) v) := by
  simp [memWrite, regionOf_ram h]

theorem memWrite_stub {p : Addr} (v : Byte) (s : State) (h1 : 0x2000 ≤ p.toNat) (h2 : p.toNat ≤ 0x401F) :
    memWrite p v s = s := by
  rcases regionOf_stub h1 h2 with h | h <;> simp [memWrite, h]

theorem memWrite_nrom {p : Addr} (v : Byte) (s : State) (h : 0x4020 ≤ p.toNat) (hm : s.mapper = .nrom) :
    memWrite p v s = s.report .mapperWriteRejected := by
  simp [memWrite, regionOf_cartridge h, writePRG, hm]

theorem memWrite_dummy {p : Addr} (v : Byte) (s : State) (h : 0x4020 ≤ p.toNat) (hm : s.mapper = .dummy) :
    memWrite p v s = s.setDRAM (s.dram.write p.toNat v) := by
  simp [memWrite, regionOf_cartridge h, writePRG, hm]

/-- Everything a bus write can do: write one RAM cell, nothing, report a rejection, or write one cell of the dummy
mapper's memory. -/
theorem memWrite_cases (p : Addr) (v : Byte) (s : State) :
    (regionOf p = .ram ∧ memWrite p v s = s.setRAM (s.ram.write (ramIndex p) v)) ∨
    ((regionOf p = .ppuStub ∨ regionOf p = .apuStub) ∧ memWrite p v s = s) ∨
    (regionOf p = .cartridge ∧ s.mapper = .nrom ∧ memWrite p v s = s.report .mapperWriteRejected) ∨
    (regionOf p = .cartridge ∧ s.mapper = .dummy ∧ memWrite p v s = s.setDRAM (s.dram.write p.toNat v)) := by
  cases hr : regionOf p <;> cases hm : s.mapper <;> simp [memWrite, hr, writePRG, hm]

@[simp] theorem memWrite_a (p : Addr) (v : Byte) (s : State) : (memWrite p v s).a = s.a := by
  rcases memWrite_cases p v s with ⟨-, h⟩ | ⟨-, h⟩ | ⟨-, -, h⟩ | ⟨-, -, h⟩ <;> simp [h]

@[simp] theorem memWrite_x (p : Addr) (v : Byte) (s : State) : (memWrite p v s).x = s.x := by
  rcases memWrite_cases p v s with ⟨-, h⟩ | ⟨-, h⟩ | ⟨-, -, h⟩ | ⟨-, -, h⟩ <;> simp [h]

@[simp] theorem memWrite_y (p : Addr) (v : Byte) (s : State) : (memWrite p v s).y = s.y := by
  rcases memWrite_cases p v s with ⟨-, h⟩ | ⟨-, h⟩ | ⟨-, -, h⟩ | ⟨-, -, h⟩ <;> simp [h]

@[simp] theorem memWrite_sp (p : Addr) (v : Byte) (s : State) : (memWrite p v s).sp = s.sp := by
  rcases memWrite_cases p v s with ⟨-, h⟩ | ⟨-, h⟩ | ⟨-, -, h⟩ | ⟨-, -, h⟩ <;> simp [h]

@[simp] theorem memWrite_pc (p : Addr) (v : Byte) (s : State) : (memWrite p v s).pc = s.pc := by
  rcases memWrite_cases p v s with ⟨-, h⟩ | ⟨-, h⟩ | ⟨-, -, h⟩ | ⟨-, -, h⟩ <;> simp [h]

@[simp] theorem memWrite_flags (p : Addr) (v : Byte) (s : State) : (memWrite p v s).flags = s.flags := by
  rcases memWrite_cases p v s with ⟨-, h⟩ | ⟨-, h⟩ | ⟨-, -, h⟩ | ⟨-, -, h⟩ <;> simp [h]

@[simp] theorem memWrite_engine (p : Addr) (v : Byte) (s : State) : (memWrite p v s).engine = s.engine := by
  rcases memWrite_cases p v s with ⟨-, h⟩ | ⟨-, h⟩ | ⟨-, -, h⟩ | ⟨-, -, h⟩ <;> simp [h]

@[simp] theorem memWrite_mapper (p : Addr) (v : Byte) (s : State) : (memWrite p v s).mapper = s.mapper := by
  rcases memWrite_cases p v s with ⟨-, h⟩ | ⟨-, h⟩ | ⟨-, -, h⟩ | ⟨-, -, h⟩ <;> simp [h]

@[simp] theorem memWrite_prg (p : Addr) (v : Byte) (s : State) : (memWrite p v s).prg = s.prg := by
  rcases memWrite_cases p v s with ⟨-, h⟩ | ⟨-, h⟩ | ⟨-, -, h⟩ | ⟨-, -, h⟩ <;> simp [h]

@[simp] theorem memWrite_prgExtended (p : Addr) (v : Byte) (s : State) : (memWrite p v s).prgExtended = s.prgExtended := by
  rcases memWrite_cases p v s with ⟨-, h⟩ | ⟨-, h⟩ | ⟨-, -, h⟩ | ⟨-, -, h⟩ <;> simp [h]

@[simp] theorem memWrite_adcCarryIn (p : Addr) (v : Byte) (s : State) : (memWrite p v s).adcCarryIn = s.adcCarryIn := by
  rcases memWrite_cases p v s with ⟨-, h⟩ | ⟨-, h⟩ | ⟨-, -, h⟩ | ⟨-, -, h⟩ <;> simp [h]

@[simp] theorem memWrite_freeReads (p : Addr) (v : Byte) (s : State) : (memWrite p v s).freeReads = s.freeReads := by
  rcases memWrite_cases p v s with ⟨-, h⟩ | ⟨-, h⟩ | ⟨-, -, h⟩ | ⟨-, -, h⟩ <;> simp [h]

/-- A write leaves every address of another cell alone: other than the address itself and, in RAM, its images. -/
theorem memWrite_peek_other {p q : Addr} (v : Byte) (s : State) (hne : q ≠ p)
    (hram : regionOf q = .ram → regionOf p = .ram → ramIndex q ≠ ramIndex p) :
    (memWrite p v s).peek q = s.peek q := by
  rcases memWrite_cases p v s with ⟨hp, h⟩ | ⟨-, h⟩ | ⟨-, -, h⟩ | ⟨hp, -, h⟩
  · rw [h]
    cases hq : regionOf q
    · simp [State.peek, hq, Memory.read_write_other _ v (hram hq hp)]
    all_goals simp [State.peek, hq, peekPRG]
  · rw [h]
  · rw [h]; apply peek_congr <;> rfl
  · rw [h]
    have hn : q.toNat ≠ p.toNat := fun e => hne (BitVec.eq_of_toNat_eq e)
    cases hq : regionOf q <;> simp [State.peek, hq, peekPRG, Memory.read_write_other _ v hn]

/-! ### The stack (R12) -/

theorem stackAddr_toNat (v : Byte) : (stackAddr v).toNat = 0x100 + v.toNat := by
  have := v.isLt
  have h : (0x0100 : Addr).toNat = 0x100 := rfl
  simp only [stackAddr, zext16, BitVec.toNat_add, BitVec.toNat_setWidth, h]
  omega

theorem stackAddr_le (v : Byte) : (stackAddr v).toNat ≤ 0x1FFF := by
  have := v.isLt
  rw [stackAddr_toNat]; omega

theorem ramIndex_stackAddr (v : Byte) : ramIndex (stackAddr v) = 0x100 + v.toNat := by
  have := v.isLt
  rw [ramIndex, stackAddr_toNat]; omega

/-- A push writes one RAM cell of the stack page and decrements SP; nothing else (R12, R54). -/
theorem push_eq (v : Byte) (s : State) :
    push v s = { s with ram := s.ram.write (0x100 + s.sp.toNat) v, sp := s.sp - 1 } := by
  simp only [push, memWrite_ram v s (stackAddr_le s.sp), ramIndex_stackAddr]; rfl

/-- A pull increments SP and answers the RAM cell it then designates; nothing else changes (R12). -/
theorem pull_eq (s : State) :
    pull s = (s.ram.read (0x100 + (s.sp + 1).toNat), { s with sp := s.sp + 1 }) := by
  simp only [pull, memRead_of_ram _ (stackAddr_le _), State.setSP_sp, ramIndex_stackAddr]; rfl

/-- A pushed word: its high byte in the cell of SP, its low byte in the next lower one (R43). -/
theorem pushWord_eq (w : Addr) (s : State) :
    pushWord w s = { s with
      ram := (s.ram.write (0x100 + s.sp.toNat) (hiByte w)).write (0x100 + (s.sp - 1).toNat) (loByte w)
      sp := s.sp - 2 } := by
  simp only [pushWord, push_eq]
  congr 1
  rw [BitVec.sub_sub]; rfl

/-- A pulled word: low byte first. -/
theorem pullWord_eq (s : State) :
    pullWord s = (word16 (s.ram.read (0x100 + (s.sp + 2).toNat)) (s.ram.read (0x100 + (s.sp + 1).toNat)),
      { s with sp := s.sp + 2 }) := by
  simp only [pullWord, pull_eq]
  rw [BitVec.add_assoc]; rfl

theorem pullFlags_eq (s : State) :
    pullFlags s = { s with flags := Flags.pulled (s.ram.read (0x100 + (s.sp + 1).toNat)), sp := s.sp + 1 } := by
  simp only [pullFlags, pull_eq]; rfl

/-- The vectors lie where every mapper states the byte: a vector read changes nothing (R47). -/
theorem readWord_vector {p : Addr} (s : State) (h : 0x8000 ≤ p.toNat) (h' : p.toNat < 0xFFFF) : (readWord p s).2 = s := by
  have h1 : (p + 1).toNat = p.toNat + 1 := by rw [BitVec.toNat_add]; simp; omega
  have key : ∀ q : Addr, 0x8000 ≤ q.toNat → ∃ v, s.peek q = some v := by
    intro q hq
    rw [peek_cartridge s (by omega), peekPRG]
    cases s.mapper <;> simp [hq]
  obtain ⟨lo, hlo⟩ := key p h
  obtain ⟨hi, hhi⟩ := key (p + 1) (by omega)
  rw [readWord_of_peek hlo hhi]

end Sys2Proof.Machine
end

