-- ==== Sys2Proof/Laws/Operands.lean ====
section
/-! SUPPORT. What the resolver, an operand read, a store, a read-modify-write and a branch can do, said once. -/

namespace Sys2Proof.Machine

/-! ### Extension and the halves of a word (R8) -/

theorem word16_getLsbD (hi lo : Byte) (k : Nat) :
    (word16 hi lo).getLsbD k = if k < 8 then lo.getLsbD k else hi.getLsbD (k - 8) :=
  BitVec.getLsbD_append

@[simp] theorem hiByte_word16 (hi lo : Byte) : hiByte (word16 hi lo) = hi := by
  apply BitVec.eq_of_getLsbD_eq
  intro k hk
  rw [hiByte, BitVec.getLsbD_extractLsb', word16_getLsbD]
  simp [hk]

@[simp] theorem loByte_word16 (hi lo : Byte) : loByte (word16 hi lo) = lo := by
  apply BitVec.eq_of_getLsbD_eq
  intro k hk
  rw [loByte, BitVec.getLsbD_extractLsb', word16_getLsbD]
  simp [hk]

@[simp] theorem word16_halves (w : Addr) : word16 (hiByte w) (loByte w) = w := by
  apply BitVec.eq_of_getLsbD_eq
  intro k hk
  rw [word16_getLsbD]
  by_cases h : k < 8
  · simp [h, loByte]
  · have e : 8 + (k - 8) = k := by omega
    have hk8 : k - 8 < 8 := by omega
    simp [h, hiByte, e, hk8]

/-- A word is its high byte times 0x100 plus its low byte (R43). -/
theorem word16_toNat (hi lo : Byte) : (word16 hi lo).toNat = hi.toNat * 0x100 + lo.toNat := by
  have := hi.isLt
  have := lo.isLt
  simp only [word16, BitVec.toNat_append]
  rw [Nat.shiftLeft_eq, Nat.mul_comm, ← Nat.two_pow_add_eq_or_of_lt (i := 8) (by omega)]

theorem zext16_toNat (v : Byte) : (zext16 v).toNat = v.toNat := by
  have := v.isLt
  simp only [zext16, BitVec.toNat_setWidth]
  omega

/-- A zero-page indexed sum is the unwrapped sum of the two bytes (R84, R85, R89). -/
theorem zeroPageSum_toNat (p i : Byte) : (zext16 p + zext16 i).toNat = p.toNat + i.toNat := by
  have := p.isLt
  have := i.isLt
  rw [BitVec.toNat_add, zext16_toNat, zext16_toNat]
  omega

/-! ### The resolver (R80) -/

/-- The resolver writes PC only, by the operand length of the mode: every pointer it reads lies in RAM (R80). -/
theorem effectiveAddress_state (o : Operand) (s : State) : (effectiveAddress o s).2 = s.advancePC o.length := by
  cases o with
  | indirectX p =>
    have := p.isLt
    have := s.x.isLt
    simp only [effectiveAddress]
    rw [readWord_of_ram _ (by rw [zeroPageSum_toNat]; omega)]
  | indirectY p =>
    have := p.isLt
    simp only [effectiveAddress]
    rw [readWord_of_ram _ (by rw [zext16_toNat]; omega)]
  | _ => rfl

/-- An operand read changes PC, and the count of free reads if the byte is unspecified (R80, R95). -/
theorem readOperand_state (o : Operand) (s : State) :
    (readOperand o s).2 =
      { s with pc := s.pc + BitVec.ofNat 16 o.length, freeReads := (readOperand o s).2.freeReads } := by
  cases o <;>
    simp only [readOperand] <;>
    first
    | (rw [memRead_state, effectiveAddress_state]; rfl)
    | (rw [effectiveAddress_state]; rfl)

/-- The operand and the state after it: the resolver's PC, and the free read if there was one. -/
theorem readOperand_eq (o : Operand) (s : State) :
    readOperand o s = ((readOperand o s).1,
      { s with pc := s.pc + BitVec.ofNat 16 o.length, freeReads := (readOperand o s).2.freeReads }) :=
  Prod.ext rfl (readOperand_state o s)

/-- The operand of a reading instruction where the spec states the byte (R95). -/
theorem readOperand_of_peek {o : Operand} {s : State} {v : Byte} (hi : ∀ b, o ≠ .immediate b)
    (h : s.peek (effectiveAddress o s).1 = some v) : readOperand o s = (v, s.advancePC o.length) := by
  have hp : (s.advancePC o.length).peek (effectiveAddress o s).1 = some v := by
    rw [← h]; apply peek_congr <;> rfl
  cases o with
  | immediate b => exact absurd rfl (hi b)
  | _ => simp only [readOperand, effectiveAddress_state]; exact memRead_of_peek hp

/-- A store of an operand that has an address is one bus write at the effective address (R92, R94). -/
theorem storeOperand_eq {o : Operand} (v : Byte) (s : State) (hi : ∀ b, o ≠ .immediate b) :
    storeOperand o v s = memWrite (effectiveAddress o s).1 v (s.advancePC o.length) := by
  cases o with
  | immediate b => exact absurd rfl (hi b)
  | _ => simp only [storeOperand, writeOperand, effectiveAddress_state]

/-- A store through Immediate reports InvalidWrite and moves PC; nothing else (R94, R115). -/
theorem storeOperand_immediate (b v : Byte) (s : State) :
    storeOperand (.immediate b) v s = { s with pc := s.pc + 1, cond := .invalidWrite } := rfl

/-- A read-modify-write is one read and one write at one address, PC and the flags as computed (R92). -/
theorem modifyOperand_eq (o : Operand) (f : Byte → Flags → Byte × Flags) (s : State) :
    modifyOperand o f s =
      let ea := (effectiveAddress o s).1
      let m := memRead ea (s.advancePC o.length)
      memWrite ea (f m.1 s.flags).1
        { s with pc := s.pc + BitVec.ofNat 16 o.length, freeReads := m.2.freeReads, flags := (f m.1 s.flags).2 } := by
  simp only [modifyOperand, effectiveAddress_state]
  rw [memRead_state]
  rfl

/-- A branch writes PC only (R140). -/
theorem branchIf_eq (taken : Bool) (off : Byte) (s : State) :
    branchIf taken off s = { s with pc := if taken then s.pc + 1 + sext16 off else s.pc + 1 } := by
  cases taken <;> rfl

/-! ### The fields an operand read, a store and a read-modify-write leave alone -/

@[simp] theorem readOperand_a (o : Operand) (s : State) : (readOperand o s).2.a = s.a := by rw [readOperand_state]

@[simp] theorem readOperand_x (o : Operand) (s : State) : (readOperand o s).2.x = s.x := by rw [readOperand_state]

@[simp] theorem readOperand_y (o : Operand) (s : State) : (readOperand o s).2.y = s.y := by rw [readOperand_state]

@[simp] theorem readOperand_sp (o : Operand) (s : State) : (readOperand o s).2.sp = s.sp := by rw [readOperand_state]

@[simp] theorem readOperand_flags (o : Operand) (s : State) : (readOperand o s).2.flags = s.flags := by rw [readOperand_state]

@[simp] theorem readOperand_ram (o : Operand) (s : State) : (readOperand o s).2.ram = s.ram := by rw [readOperand_state]

@[simp] theorem readOperand_dram (o : Operand) (s : State) : (readOperand o s).2.dram = s.dram := by rw [readOperand_state]

@[simp] theorem readOperand_engine (o : Operand) (s : State) : (readOperand o s).2.engine = s.engine := by rw [readOperand_state]

@[simp] theorem readOperand_cond (o : Operand) (s : State) : (readOperand o s).2.cond = s.cond := by rw [readOperand_state]

@[simp] theorem readOperand_mapper (o : Operand) (s : State) : (readOperand o s).2.mapper = s.mapper := by rw [readOperand_state]

@[simp] theorem readOperand_prg (o : Operand) (s : State) : (readOperand o s).2.prg = s.prg := by rw [readOperand_state]

@[simp] theorem readOperand_prgExtended (o : Operand) (s : State) : (readOperand o s).2.prgExtended = s.prgExtended := by rw [readOperand_state]

@[simp] theorem readOperand_adcCarryIn (o : Operand) (s : State) : (readOperand o s).2.adcCarryIn = s.adcCarryIn := by rw [readOperand_state]

@[simp] theorem readOperand_pc (o : Operand) (s : State) :
    (readOperand o s).2.pc = s.pc + BitVec.ofNat 16 o.length := by rw [readOperand_state]

@[simp] theorem readOperand_peek (o : Operand) (s : State) (q : Addr) : (readOperand o s).2.peek q = s.peek q := by
  rw [readOperand_state]; apply peek_congr <;> rfl

@[simp] theorem storeOperand_a (o : Operand) (v : Byte) (s : State) : (storeOperand o v s).a = s.a := by
  cases o <;> simp [storeOperand, writeOperand, effectiveAddress_state, State.advancePC]

@[simp] theorem storeOperand_x (o : Operand) (v : Byte) (s : State) : (storeOperand o v s).x = s.x := by
  cases o <;> simp [storeOperand, writeOperand, effectiveAddress_state, State.advancePC]

@[simp] theorem storeOperand_y (o : Operand) (v : Byte) (s : State) : (storeOperand o v s).y = s.y := by
  cases o <;> simp [storeOperand, writeOperand, effectiveAddress_state, State.advancePC]

@[simp] theorem storeOperand_sp (o : Operand) (v : Byte) (s : State) : (storeOperand o v s).sp = s.sp := by
  cases o <;> simp [storeOperand, writeOperand, effectiveAddress_state, State.advancePC]

@[simp] theorem storeOperand_flags (o : Operand) (v : Byte) (s : State) : (storeOperand o v s).flags = s.flags := by
  cases o <;> simp [storeOperand, writeOperand, effectiveAddress_state, State.advancePC]

@[simp] theorem storeOperand_engine (o : Operand) (v : Byte) (s : State) : (storeOperand o v s).engine = s.engine := by
  cases o <;> simp [storeOperand, writeOperand, effectiveAddress_state, State.advancePC]

@[simp] theorem storeOperand_mapper (o : Operand) (v : Byte) (s : State) : (storeOperand o v s).mapper = s.mapper := by
  cases o <;> simp [storeOperand, writeOperand, effectiveAddress_state, State.advancePC]

@[simp] theorem storeOperand_prg (o : Operand) (v : Byte) (s : State) : (storeOperand o v s).prg = s.prg := by
  cases o <;> simp [storeOperand, writeOperand, effectiveAddress_state, State.advancePC]

@[simp] theorem storeOperand_prgExtended (o : Operand) (v : Byte) (s : State) : (storeOperand o v s).prgExtended = s.prgExtended := by
  cases o <;> simp [storeOperand, writeOperand, effectiveAddress_state, State.advancePC]

@[simp] theorem storeOperand_adcCarryIn (o : Operand) (v : Byte) (s : State) : (storeOperand o v s).adcCarryIn = s.adcCarryIn := by
  cases o <;> simp [storeOperand, writeOperand, effectiveAddress_state, State.advancePC]

@[simp] theorem storeOperand_pc (o : Operand) (v : Byte) (s : State) :
    (storeOperand o v s).pc = s.pc + BitVec.ofNat 16 o.length := by
  cases o <;> simp [storeOperand, writeOperand, effectiveAddress_state, State.advancePC]

@[simp] theorem modifyOperand_a (o : Operand) (f : Byte → Flags → Byte × Flags) (s : State) :
    (modifyOperand o f s).a = s.a := by simp [modifyOperand_eq]

@[simp] theorem modifyOperand_x (o : Operand) (f : Byte → Flags → Byte × Flags) (s : State) :
    (modifyOperand o f s).x = s.x := by simp [modifyOperand_eq]

@[simp] theorem modifyOperand_y (o : Operand) (f : Byte → Flags → Byte × Flags) (s : State) :
    (modifyOperand o f s).y = s.y := by simp [modifyOperand_eq]

@[simp] theorem modifyOperand_sp (o : Operand) (f : Byte → Flags → Byte × Flags) (s : State) :
    (modifyOperand o f s).sp = s.sp := by simp [modifyOperand_eq]

@[simp] theorem modifyOperand_engine (o : Operand) (f : Byte → Flags → Byte × Flags) (s : State) :
    (modifyOperand o f s).engine = s.engine := by simp [modifyOperand_eq]

@[simp] theorem modifyOperand_mapper (o : Operand) (f : Byte → Flags → Byte × Flags) (s : State) :
    (modifyOperand o f s).mapper = s.mapper := by simp [modifyOperand_eq]

@[simp] theorem modifyOperand_prg (o : Operand) (f : Byte → Flags → Byte × Flags) (s : State) :
    (modifyOperand o f s).prg = s.prg := by simp [modifyOperand_eq]

@[simp] theorem modifyOperand_prgExtended (o : Operand) (f : Byte → Flags → Byte × Flags) (s : State) :
    (modifyOperand o f s).prgExtended = s.prgExtended := by simp [modifyOperand_eq]

@[simp] theorem modifyOperand_adcCarryIn (o : Operand) (f : Byte → Flags → Byte × Flags) (s : State) :
    (modifyOperand o f s).adcCarryIn = s.adcCarryIn := by simp [modifyOperand_eq]

@[simp] theorem modifyOperand_pc (o : Operand) (f : Byte → Flags → Byte × Flags) (s : State) :
    (modifyOperand o f s).pc = s.pc + BitVec.ofNat 16 o.length := by simp [modifyOperand_eq]

end Sys2Proof.Machine
end

