-- ==== Sys2Proof/Laws/PerInstr.lean ====
section
/-! SUPPORT. Statements about every instruction as syntax, one lemma per constructor. -/

/-- An instruction's bytes: the opcode first, as many as its length, one to three (R60), its operand of the width of its mode
(R66). -/
def Sys2Proof.Laws.Encoding.Statement (i : Sys2Proof.Instr) : Prop :=
  (Sys2Proof.encode i).head? = some i.opcode ∧ (Sys2Proof.encode i).length = i.length ∧ 1 ≤ i.length ∧ i.length ≤ 3 ∧
    i.wf = true

namespace Sys2Proof.Laws.Encoding

theorem brk : Statement (Instr.brk) := 
  ⟨rfl, rfl, Nat.le_of_ble_eq_true rfl, Nat.le_of_ble_eq_true rfl, rfl⟩

theorem oraInx (b : Byte) : Statement (Instr.oraInx b) := 
  ⟨rfl, rfl, Nat.le_of_ble_eq_true rfl, Nat.le_of_ble_eq_true rfl, rfl⟩

theorem unimpl02 : Statement (Instr.unimpl02) := 
  ⟨rfl, rfl, Nat.le_of_ble_eq_true rfl, Nat.le_of_ble_eq_true rfl, rfl⟩

theorem unimpl03 : Statement (Instr.unimpl03) := 
  ⟨rfl, rfl, Nat.le_of_ble_eq_true rfl, Nat.le_of_ble_eq_true rfl, rfl⟩

theorem unimpl04 : Statement (Instr.unimpl04) := 
  ⟨rfl, rfl, Nat.le_of_ble_eq_true rfl, Nat.le_of_ble_eq_true rfl, rfl⟩

theorem oraZp (b : Byte) : Statement (Instr.oraZp b) := 
  ⟨rfl, rfl, Nat.le_of_ble_eq_true rfl, Nat.le_of_ble_eq_true rfl, rfl⟩

theorem aslZp (b : Byte) : Statement (Instr.aslZp b) := 
  ⟨rfl, rfl, Nat.le_of_ble_eq_true rfl, Nat.le_of_ble_eq_true rfl, rfl⟩

theorem unimpl07 : Statement (Instr.unimpl07) := 
  ⟨rfl, rfl, Nat.le_of_ble_eq_true rfl, Nat.le_of_ble_eq_true rfl, rfl⟩

theorem php : Statement (Instr.php) := 
  ⟨rfl, rfl, Nat.le_of_ble_eq_true rfl, Nat.le_of_ble_eq_true rfl, rfl⟩

theorem oraImm (b : Byte) : Statement (Instr.oraImm b) := 
  ⟨rfl, rfl, Nat.le_of_ble_eq_true rfl, Nat.le_of_ble_eq_true rfl, rfl⟩

theorem aslAcc : Statement (Instr.aslAcc) := 
  ⟨rfl, rfl, Nat.le_of_ble_eq_true rfl, Nat.le_of_ble_eq_true rfl, rfl⟩

theorem unimpl0B : Statement (Instr.unimpl0B) := 
  ⟨rfl, rfl, Nat.le_of_ble_eq_true rfl, Nat.le_of_ble_eq_true rfl, rfl⟩

theorem unimpl0C : Statement (Instr.unimpl0C) := 
  ⟨rfl, rfl, Nat.le_of_ble_eq_true rfl, Nat.le_of_ble_eq_true rfl, rfl⟩

theorem oraAbs (w : Addr) : Statement (Instr.oraAbs w) := 
  ⟨rfl, rfl, Nat.le_of_ble_eq_true rfl, Nat.le_of_ble_eq_true rfl, rfl⟩

theorem aslAbs (w : Addr) : Statement (Instr.aslAbs w) := 
  ⟨rfl, rfl, Nat.le_of_ble_eq_true rfl, Nat.le_of_ble_eq_true rfl, rfl⟩

theorem unimpl0F : Statement (Instr.unimpl0F) := 
  ⟨rfl, rfl, Nat.le_of_ble_eq_true rfl, Nat.le_of_ble_eq_true rfl, rfl⟩

theorem bpl (b : Byte) : Statement (Instr.bpl b) := 
  ⟨rfl, rfl, Nat.le_of_ble_eq_true rfl, Nat.le_of_ble_eq_true rfl, rfl⟩

theorem oraIny (b : Byte) : Statement (Instr.oraIny b) := 
  ⟨rfl, rfl, Nat.le_of_ble_eq_true rfl, Nat.le_of_ble_eq_true rfl, rfl⟩

theorem unimpl12 : Statement (Instr.unimpl12) := 
  ⟨rfl, rfl, Nat.le_of_ble_eq_true rfl, Nat.le_of_ble_eq_true rfl, rfl⟩

theorem unimpl13 : Statement (Instr.unimpl13) := 
  ⟨rfl, rfl, Nat.le_of_ble_eq_true rfl, Nat.le_of_ble_eq_true rfl, rfl⟩

theorem unimpl14 : Statement (Instr.unimpl14) := 
  ⟨rfl, rfl, Nat.le_of_ble_eq_true rfl, Nat.le_of_ble_eq_true rfl, rfl⟩

theorem oraZpx (b : Byte) : Statement (Instr.oraZpx b) := 
  ⟨rfl, rfl, Nat.le_of_ble_eq_true rfl, Nat.le_of_ble_eq_true rfl, rfl⟩

theorem aslZpx (b : Byte) : Statement (Instr.aslZpx b) := 
  ⟨rfl, rfl, Nat.le_of_ble_eq_true rfl, Nat.le_of_ble_eq_true rfl, rfl⟩

theorem unimpl17 : Statement (Instr.unimpl17) := 
  ⟨rfl, rfl, Nat.le_of_ble_eq_true rfl, Nat.le_of_ble_eq_true rfl, rfl⟩

theorem clc : Statement (Instr.clc) := 
  ⟨rfl, rfl, Nat.le_of_ble_eq_true rfl, Nat.le_of_ble_eq_true rfl, rfl⟩

theorem oraAby (w : Addr) : Statement (Instr.oraAby w) := 
  ⟨rfl, rfl, Nat.le_of_ble_eq_true rfl, Nat.le_of_ble_eq_true rfl, rfl⟩

theorem unimpl1A : Statement (Instr.unimpl1A) := 
  ⟨rfl, rfl, Nat.le_of_ble_eq_true rfl, Nat.le_of_ble_eq_true rfl, rfl⟩

theorem unimpl1B : Statement (Instr.unimpl1B) := 
  ⟨rfl, rfl, Nat.le_of_ble_eq_true rfl, Nat.le_of_ble_eq_true rfl, rfl⟩

theorem unimpl1C : Statement (Instr.unimpl1C) := 
  ⟨rfl, rfl, Nat.le_of_ble_eq_true rfl, Nat.le_of_ble_eq_true rfl, rfl⟩

theorem oraAbx (w : Addr) : Statement (Instr.oraAbx w) := 
  ⟨rfl, rfl, Nat.le_of_ble_eq_true rfl, Nat.le_of_ble_eq_true rfl, rfl⟩

theorem aslAbx (w : Addr) : Statement (Instr.aslAbx w) := 
  ⟨rfl, rfl, Nat.le_of_ble_eq_true rfl, Nat.le_of_ble_eq_true rfl, rfl⟩

theorem unimpl1F : Statement (Instr.unimpl1F) := 
  ⟨rfl, rfl, Nat.le_of_ble_eq_true rfl, Nat.le_of_ble_eq_true rfl, rfl⟩

theorem jsr (w : Addr) : Statement (Instr.jsr w) := 
  ⟨rfl, rfl, Nat.le_of_ble_eq_true rfl, Nat.le_of_ble_eq_true rfl, rfl⟩

theorem andInx (b : Byte) : Statement (Instr.andInx b) := 
  ⟨rfl, rfl, Nat.le_of_ble_eq_true rfl, Nat.le_of_ble_eq_true rfl, rfl⟩

theorem unimpl22 : Statement (Instr.unimpl22) := 
  ⟨rfl, rfl, Nat.le_of_ble_eq_true rfl, Nat.le_of_ble_eq_true rfl, rfl⟩

theorem unimpl23 : Statement (Instr.unimpl23) := 
  ⟨rfl, rfl, Nat.le_of_ble_eq_true rfl, Nat.le_of_ble_eq_true rfl, rfl⟩

theorem bitZp (b : Byte) : Statement (Instr.bitZp b) := 
  ⟨rfl, rfl, Nat.le_of_ble_eq_true rfl, Nat.le_of_ble_eq_true rfl, rfl⟩

theorem andZp (b : Byte) : Statement (Instr.andZp b) := 
  ⟨rfl, rfl, Nat.le_of_ble_eq_true rfl, Nat.le_of_ble_eq_true rfl, rfl⟩

theorem rolZp (b : Byte) : Statement (Instr.rolZp b) := 
  ⟨rfl, rfl, Nat.le_of_ble_eq_true rfl, Nat.le_of_ble_eq_true rfl, rfl⟩

theorem unimpl27 : Statement (Instr.unimpl27) := 
  ⟨rfl, rfl, Nat.le_of_ble_eq_true rfl, Nat.le_of_ble_eq_true rfl, rfl⟩

theorem plp : Statement (Instr.plp) := 
  ⟨rfl, rfl, Nat.le_of_ble_eq_true rfl, Nat.le_of_ble_eq_true rfl, rfl⟩

theorem andImm (b : Byte) : Statement (Instr.andImm b) := 
  ⟨rfl, rfl, Nat.le_of_ble_eq_true rfl, Nat.le_of_ble_eq_true rfl, rfl⟩

theorem rolAcc : Statement (Instr.rolAcc) := 
  ⟨rfl, rfl, Nat.le_of_ble_eq_true rfl, Nat.le_of_ble_eq_true rfl, rfl⟩

theorem unimpl2B : Statement (Instr.unimpl2B) := 
  ⟨rfl, rfl, Nat.le_of_ble_eq_true rfl, Nat.le_of_ble_eq_true rfl, rfl⟩

theorem bitAbs (w : Addr) : Statement (Instr.bitAbs w) := 
  ⟨rfl, rfl, Nat.le_of_ble_eq_true rfl, Nat.le_of_ble_eq_true rfl, rfl⟩

theorem andAbs (w : Addr) : Statement (Instr.andAbs w) := 
  ⟨rfl, rfl, Nat.le_of_ble_eq_true rfl, Nat.le_of_ble_eq_true rfl, rfl⟩

theorem rolAbs (w : Addr) : Statement (Instr.rolAbs w) := 
  ⟨rfl, rfl, Nat.le_of_ble_eq_true rfl, Nat.le_of_ble_eq_true rfl, rfl⟩

theorem unimpl2F : Statement (Instr.unimpl2F) := 
  ⟨rfl, rfl, Nat.le_of_ble_eq_true rfl, Nat.le_of_ble_eq_true rfl, rfl⟩

theorem bmi (b : Byte) : Statement (Instr.bmi b) := 
  ⟨rfl, rfl, Nat.le_of_ble_eq_true rfl, Nat.le_of_ble_eq_true rfl, rfl⟩

theorem andIny (b : Byte) : Statement (Instr.andIny b) := 
  ⟨rfl, rfl, Nat.le_of_ble_eq_true rfl, Nat.le_of_ble_eq_true rfl, rfl⟩

theorem unimpl32 : Statement (Instr.unimpl32) := 
  ⟨rfl, rfl, Nat.le_of_ble_eq_true rfl, Nat.le_of_ble_eq_true rfl, rfl⟩

theorem unimpl33 : Statement (Instr.unimpl33) := 
  ⟨rfl, rfl, Nat.le_of_ble_eq_true rfl, Nat.le_of_ble_eq_true rfl, rfl⟩

theorem unimpl34 : Statement (Instr.unimpl34) := 
  ⟨rfl, rfl, Nat.le_of_ble_eq_true rfl, Nat.le_of_ble_eq_true rfl, rfl⟩

theorem andZpx (b : Byte) : Statement (Instr.andZpx b) := 
  ⟨rfl, rfl, Nat.le_of_ble_eq_true rfl, Nat.le_of_ble_eq_true rfl, rfl⟩

theorem rolZpx (b : Byte) : Statement (Instr.rolZpx b) := 
  ⟨rfl, rfl, Nat.le_of_ble_eq_true rfl, Nat.le_of_ble_eq_true rfl, rfl⟩

theorem unimpl37 : Statement (Instr.unimpl37) := 
  ⟨rfl, rfl, Nat.le_of_ble_eq_true rfl, Nat.le_of_ble_eq_true rfl, rfl⟩

theorem sec : Statement (Instr.sec) := 
  ⟨rfl, rfl, Nat.le_of_ble_eq_true rfl, Nat.le_of_ble_eq_true rfl, rfl⟩

theorem andAby (w : Addr) : Statement (Instr.andAby w) := 
  ⟨rfl, rfl, Nat.le_of_ble_eq_true rfl, Nat.le_of_ble_eq_true rfl, rfl⟩

theorem unimpl3A : Statement (Instr.unimpl3A) := 
  ⟨rfl, rfl, Nat.le_of_ble_eq_true rfl, Nat.le_of_ble_eq_true rfl, rfl⟩

theorem unimpl3B : Statement (Instr.unimpl3B) := 
  ⟨rfl, rfl, Nat.le_of_ble_eq_true rfl, Nat.le_of_ble_eq_true rfl, rfl⟩

theorem unimpl3C : Statement (Instr.unimpl3C) := 
  ⟨rfl, rfl, Nat.le_of_ble_eq_true rfl, Nat.le_of_ble_eq_true rfl, rfl⟩

theorem andAbx (w : Addr) : Statement (Instr.andAbx w) := 
  ⟨rfl, rfl, Nat.le_of_ble_eq_true rfl, Nat.le_of_ble_eq_true rfl, rfl⟩

theorem rolAbx (w : Addr) : Statement (Instr.rolAbx w) := 
  ⟨rfl, rfl, Nat.le_of_ble_eq_true rfl, Nat.le_of_ble_eq_true rfl, rfl⟩

theorem unimpl3F : Statement (Instr.unimpl3F) := 
  ⟨rfl, rfl, Nat.le_of_ble_eq_true rfl, Nat.le_of_ble_eq_true rfl, rfl⟩

theorem rti : Statement (Instr.rti) := 
  ⟨rfl, rfl, Nat.le_of_ble_eq_true rfl, Nat.le_of_ble_eq_true rfl, rfl⟩

theorem eorInx (b : Byte) : Statement (Instr.eorInx b) := 
  ⟨rfl, rfl, Nat.le_of_ble_eq_true rfl, Nat.le_of_ble_eq_true rfl, rfl⟩

theorem unimpl42 : Statement (Instr.unimpl42) := 
  ⟨rfl, rfl, Nat.le_of_ble_eq_true rfl, Nat.le_of_ble_eq_true rfl, rfl⟩

theorem unimpl43 : Statement (Instr.unimpl43) := 
  ⟨rfl, rfl, Nat.le_of_ble_eq_true rfl, Nat.le_of_ble_eq_true rfl, rfl⟩

theorem unimpl44 : Statement (Instr.unimpl44) := 
  ⟨rfl, rfl, Nat.le_of_ble_eq_true rfl, Nat.le_of_ble_eq_true rfl, rfl⟩

theorem eorZp (b : Byte) : Statement (Instr.eorZp b) := 
  ⟨rfl, rfl, Nat.le_of_ble_eq_true rfl, Nat.le_of_ble_eq_true rfl, rfl⟩

theorem lsrZp (b : Byte) : Statement (Instr.lsrZp b) := 
  ⟨rfl, rfl, Nat.le_of_ble_eq_true rfl, Nat.le_of_ble_eq_true rfl, rfl⟩

theorem unimpl47 : Statement (Instr.unimpl47) := 
  ⟨rfl, rfl, Nat.le_of_ble_eq_true rfl, Nat.le_of_ble_eq_true rfl, rfl⟩

theorem pha : Statement (Instr.pha) := 
  ⟨rfl, rfl, Nat.le_of_ble_eq_true rfl, Nat.le_of_ble_eq_true rfl, rfl⟩

theorem eorImm (b : Byte) : Statement (Instr.eorImm b) := 
  ⟨rfl, rfl, Nat.le_of_ble_eq_true rfl, Nat.le_of_ble_eq_true rfl, rfl⟩

theorem lsrAcc : Statement (Instr.lsrAcc) := 
  ⟨rfl, rfl, Nat.le_of_ble_eq_true rfl, Nat.le_of_ble_eq_true rfl, rfl⟩

theorem unimpl4B : Statement (Instr.unimpl4B) := 
  ⟨rfl, rfl, Nat.le_of_ble_eq_true rfl, Nat.le_of_ble_eq_true rfl, rfl⟩

theorem jmpAbs (w : Addr) : Statement (Instr.jmpAbs w) := 
  ⟨rfl, rfl, Nat.le_of_ble_eq_true rfl, Nat.le_of_ble_eq_true rfl, rfl⟩

theorem eorAbs (w : Addr) : Statement (Instr.eorAbs w) := 
  ⟨rfl, rfl, Nat.le_of_ble_eq_true rfl, Nat.le_of_ble_eq_true rfl, rfl⟩

theorem lsrAbs (w : Addr) : Statement (Instr.lsrAbs w) := 
  ⟨rfl, rfl, Nat.le_of_ble_eq_true rfl, Nat.le_of_ble_eq_true rfl, rfl⟩

theorem unimpl4F : Statement (Instr.unimpl4F) := 
  ⟨rfl, rfl, Nat.le_of_ble_eq_true rfl, Nat.le_of_ble_eq_true rfl, rfl⟩

theorem bvc (b : Byte) : Statement (Instr.bvc b) := 
  ⟨rfl, rfl, Nat.le_of_ble_eq_true rfl, Nat.le_of_ble_eq_true rfl, rfl⟩

theorem eorIny (b : Byte) : Statement (Instr.eorIny b) := 
  ⟨rfl, rfl, Nat.le_of_ble_eq_true rfl, Nat.le_of_ble_eq_true rfl, rfl⟩

theorem unimpl52 : Statement (Instr.unimpl52) := 
  ⟨rfl, rfl, Nat.le_of_ble_eq_true rfl, Nat.le_of_ble_eq_true rfl, rfl⟩

theorem unimpl53 : Statement (Instr.unimpl53) := 
  ⟨rfl, rfl, Nat.le_of_ble_eq_true rfl, Nat.le_of_ble_eq_true rfl, rfl⟩

theorem unimpl54 : Statement (Instr.unimpl54) := 
  ⟨rfl, rfl, Nat.le_of_ble_eq_true rfl, Nat.le_of_ble_eq_true rfl, rfl⟩

theorem eorZpx (b : Byte) : Statement (Instr.eorZpx b) := 
  ⟨rfl, rfl, Nat.le_of_ble_eq_true rfl, Nat.le_of_ble_eq_true rfl, rfl⟩

theorem lsrZpx (b : Byte) : Statement (Instr.lsrZpx b) := 
  ⟨rfl, rfl, Nat.le_of_ble_eq_true rfl, Nat.le_of_ble_eq_true rfl, rfl⟩

theorem unimpl57 : Statement (Instr.unimpl57) := 
  ⟨rfl, rfl, Nat.le_of_ble_eq_true rfl, Nat.le_of_ble_eq_true rfl, rfl⟩

theorem cli : Statement (Instr.cli) := 
  ⟨rfl, rfl, Nat.le_of_ble_eq_true rfl, Nat.le_of_ble_eq_true rfl, rfl⟩

theorem eorAby (w : Addr) : Statement (Instr.eorAby w) := 
  ⟨rfl, rfl, Nat.le_of_ble_eq_true rfl, Nat.le_of_ble_eq_true rfl, rfl⟩

theorem unimpl5A : Statement (Instr.unimpl5A) := 
  ⟨rfl, rfl, Nat.le_of_ble_eq_true rfl, Nat.le_of_ble_eq_true rfl, rfl⟩

theorem unimpl5B : Statement (Instr.unimpl5B) := 
  ⟨rfl, rfl, Nat.le_of_ble_eq_true rfl, Nat.le_of_ble_eq_true rfl, rfl⟩

theorem unimpl5C : Statement (Instr.unimpl5C) := 
  ⟨rfl, rfl, Nat.le_of_ble_eq_true rfl, Nat.le_of_ble_eq_true rfl, rfl⟩

theorem eorAbx (w : Addr) : Statement (Instr.eorAbx w) := 
  ⟨rfl, rfl, Nat.le_of_ble_eq_true rfl, Nat.le_of_ble_eq_true rfl, rfl⟩

theorem lsrAbx (w : Addr) : Statement (Instr.lsrAbx w) := 
  ⟨rfl, rfl, Nat.le_of_ble_eq_true rfl, Nat.le_of_ble_eq_true rfl, rfl⟩

theorem unimpl5F : Statement (Instr.unimpl5F) := 
  ⟨rfl, rfl, Nat.le_of_ble_eq_true rfl, Nat.le_of_ble_eq_true rfl, rfl⟩

theorem rts : Statement (Instr.rts) := 
  ⟨rfl, rfl, Nat.le_of_ble_eq_true rfl, Nat.le_of_ble_eq_true rfl, rfl⟩

theorem adcInx (b : Byte) : Statement (Instr.adcInx b) := 
  ⟨rfl, rfl, Nat.le_of_ble_eq_true rfl, Nat.le_of_ble_eq_true rfl, rfl⟩

theorem unimpl62 : Statement (Instr.unimpl62) := 
  ⟨rfl, rfl, Nat.le_of_ble_eq_true rfl, Nat.le_of_ble_eq_true rfl, rfl⟩

theorem unimpl63 : Statement (Instr.unimpl63) := 
  ⟨rfl, rfl, Nat.le_of_ble_eq_true rfl, Nat.le_of_ble_eq_true rfl, rfl⟩

theorem unimpl64 : Statement (Instr.unimpl64) := 
  ⟨rfl, rfl, Nat.le_of_ble_eq_true rfl, Nat.le_of_ble_eq_true rfl, rfl⟩

theorem adcZp (b : Byte) : Statement (Instr.adcZp b) := 
  ⟨rfl, rfl, Nat.le_of_ble_eq_true rfl, Nat.le_of_ble_eq_true rfl, rfl⟩

theorem rorZp (b : Byte) : Statement (Instr.rorZp b) := 
  ⟨rfl, rfl, Nat.le_of_ble_eq_true rfl, Nat.le_of_ble_eq_true rfl, rfl⟩

theorem unimpl67 : Statement (Instr.unimpl67) := 
  ⟨rfl, rfl, Nat.le_of_ble_eq_true rfl, Nat.le_of_ble_eq_true rfl, rfl⟩

theorem pla : Statement (Instr.pla) := 
  ⟨rfl, rfl, Nat.le_of_ble_eq_true rfl, Nat.le_of_ble_eq_true rfl, rfl⟩

theorem adcImm (b : Byte) : Statement (Instr.adcImm b) := 
  ⟨rfl, rfl, Nat.le_of_ble_eq_true rfl, Nat.le_of_ble_eq_true rfl, rfl⟩

theorem rorAcc : Statement (Instr.rorAcc) := 
  ⟨rfl, rfl, Nat.le_of_ble_eq_true rfl, Nat.le_of_ble_eq_true rfl, rfl⟩

theorem unimpl6B : Statement (Instr.unimpl6B) := 
  ⟨rfl, rfl, Nat.le_of_ble_eq_true rfl, Nat.le_of_ble_eq_true rfl, rfl⟩

theorem jmpInd (w : Addr) : Statement (Instr.jmpInd w) := 
  ⟨rfl, rfl, Nat.le_of_ble_eq_true rfl, Nat.le_of_ble_eq_true rfl, rfl⟩

theorem adcAbs (w : Addr) : Statement (Instr.adcAbs w) := 
  ⟨rfl, rfl, Nat.le_of_ble_eq_true rfl, Nat.le_of_ble_eq_true rfl, rfl⟩

theorem rorAbs (w : Addr) : Statement (Instr.rorAbs w) := 
  ⟨rfl, rfl, Nat.le_of_ble_eq_true rfl, Nat.le_of_ble_eq_true rfl, rfl⟩

theorem unimpl6F : Statement (Instr.unimpl6F) := 
  ⟨rfl, rfl, Nat.le_of_ble_eq_true rfl, Nat.le_of_ble_eq_true rfl, rfl⟩

theorem bvs (b : Byte) : Statement (Instr.bvs b) := 
  ⟨rfl, rfl, Nat.le_of_ble_eq_true rfl, Nat.le_of_ble_eq_true rfl, rfl⟩

theorem adcIny (b : Byte) : Statement (Instr.adcIny b) := 
  ⟨rfl, rfl, Nat.le_of_ble_eq_true rfl, Nat.le_of_ble_eq_true rfl, rfl⟩

theorem unimpl72 : Statement (Instr.unimpl72) := 
  ⟨rfl, rfl, Nat.le_of_ble_eq_true rfl, Nat.le_of_ble_eq_true rfl, rfl⟩

theorem unimpl73 : Statement (Instr.unimpl73) := 
  ⟨rfl, rfl, Nat.le_of_ble_eq_true rfl, Nat.le_of_ble_eq_true rfl, rfl⟩

theorem unimpl74 : Statement (Instr.unimpl74) := 
  ⟨rfl, rfl, Nat.le_of_ble_eq_true rfl, Nat.le_of_ble_eq_true rfl, rfl⟩

theorem adcZpx (b : Byte) : Statement (Instr.adcZpx b) := 
  ⟨rfl, rfl, Nat.le_of_ble_eq_true rfl, Nat.le_of_ble_eq_true rfl, rfl⟩

theorem rorZpx (b : Byte) : Statement (Instr.rorZpx b) := 
  ⟨rfl, rfl, Nat.le_of_ble_eq_true rfl, Nat.le_of_ble_eq_true rfl, rfl⟩

theorem unimpl77 : Statement (Instr.unimpl77) := 
  ⟨rfl, rfl, Nat.le_of_ble_eq_true rfl, Nat.le_of_ble_eq_true rfl, rfl⟩

theorem sei : Statement (Instr.sei) := 
  ⟨rfl, rfl, Nat.le_of_ble_eq_true rfl, Nat.le_of_ble_eq_true rfl, rfl⟩

theorem adcAby (w : Addr) : Statement (Instr.adcAby w) := 
  ⟨rfl, rfl, Nat.le_of_ble_eq_true rfl, Nat.le_of_ble_eq_true rfl, rfl⟩

theorem unimpl7A : Statement (Instr.unimpl7A) := 
  ⟨rfl, rfl, Nat.le_of_ble_eq_true rfl, Nat.le_of_ble_eq_true rfl, rfl⟩

theorem unimpl7B : Statement (Instr.unimpl7B) := 
  ⟨rfl, rfl, Nat.le_of_ble_eq_true rfl, Nat.le_of_ble_eq_true rfl, rfl⟩

theorem unimpl7C : Statement (Instr.unimpl7C) := 
  ⟨rfl, rfl, Nat.le_of_ble_eq_true rfl, Nat.le_of_ble_eq_true rfl, rfl⟩

theorem adcAbx (w : Addr) : Statement (Instr.adcAbx w) := 
  ⟨rfl, rfl, Nat.le_of_ble_eq_true rfl, Nat.le_of_ble_eq_true rfl, rfl⟩

theorem rorAbx (w : Addr) : Statement (Instr.rorAbx w) := 
  ⟨rfl, rfl, Nat.le_of_ble_eq_true rfl, Nat.le_of_ble_eq_true rfl, rfl⟩

theorem unimpl7F : Statement (Instr.unimpl7F) := 
  ⟨rfl, rfl, Nat.le_of_ble_eq_true rfl, Nat.le_of_ble_eq_true rfl, rfl⟩

theorem unimpl80 : Statement (Instr.unimpl80) := 
  ⟨rfl, rfl, Nat.le_of_ble_eq_true rfl, Nat.le_of_ble_eq_true rfl, rfl⟩

theorem staInx (b : Byte) : Statement (Instr.staInx b) := 
  ⟨rfl, rfl, Nat.le_of_ble_eq_true rfl, Nat.le_of_ble_eq_true rfl, rfl⟩

theorem unimpl82 : Statement (Instr.unimpl82) := 
  ⟨rfl, rfl, Nat.le_of_ble_eq_true rfl, Nat.le_of_ble_eq_true rfl, rfl⟩

theorem unimpl83 : Statement (Instr.unimpl83) := 
  ⟨rfl, rfl, Nat.le_of_ble_eq_true rfl, Nat.le_of_ble_eq_true rfl, rfl⟩

theorem styZp (b : Byte) : Statement (Instr.styZp b) := 
  ⟨rfl, rfl, Nat.le_of_ble_eq_true rfl, Nat.le_of_ble_eq_true rfl, rfl⟩

theorem staZp (b : Byte) : Statement (Instr.staZp b) := 
  ⟨rfl, rfl, Nat.le_of_ble_eq_true rfl, Nat.le_of_ble_eq_true rfl, rfl⟩

theorem stxZp (b : Byte) : Statement (Instr.stxZp b) := 
  ⟨rfl, rfl, Nat.le_of_ble_eq_true rfl, Nat.le_of_ble_eq_true rfl, rfl⟩

theorem unimpl87 : Statement (Instr.unimpl87) := 
  ⟨rfl, rfl, Nat.le_of_ble_eq_true rfl, Nat.le_of_ble_eq_true rfl, rfl⟩

theorem dey : Statement (Instr.dey) := 
  ⟨rfl, rfl, Nat.le_of_ble_eq_true rfl, Nat.le_of_ble_eq_true rfl, rfl⟩

theorem staImm (b : Byte) : Statement (Instr.staImm b) := 
  ⟨rfl, rfl, Nat.le_of_ble_eq_true rfl, Nat.le_of_ble_eq_true rfl, rfl⟩

theorem txa : Statement (Instr.txa) := 
  ⟨rfl, rfl, Nat.le_of_ble_eq_true rfl, Nat.le_of_ble_eq_true rfl, rfl⟩

theorem unimpl8B : Statement (Instr.unimpl8B) := 
  ⟨rfl, rfl, Nat.le_of_ble_eq_true rfl, Nat.le_of_ble_eq_true rfl, rfl⟩

theorem styAbs (w : Addr) : Statement (Instr.styAbs w) := 
  ⟨rfl, rfl, Nat.le_of_ble_eq_true rfl, Nat.le_of_ble_eq_true rfl, rfl⟩

theorem staAbs (w : Addr) : Statement (Instr.staAbs w) := 
  ⟨rfl, rfl, Nat.le_of_ble_eq_true rfl, Nat.le_of_ble_eq_true rfl, rfl⟩

theorem stxAbs (w : Addr) : Statement (Instr.stxAbs w) := 
  ⟨rfl, rfl, Nat.le_of_ble_eq_true rfl, Nat.le_of_ble_eq_true rfl, rfl⟩

theorem unimpl8F : Statement (Instr.unimpl8F) := 
  ⟨rfl, rfl, Nat.le_of_ble_eq_true rfl, Nat.le_of_ble_eq_true rfl, rfl⟩

theorem bcc (b : Byte) : Statement (Instr.bcc b) := 
  ⟨rfl, rfl, Nat.le_of_ble_eq_true rfl, Nat.le_of_ble_eq_true rfl, rfl⟩

theorem staIny (b : Byte) : Statement (Instr.staIny b) := 
  ⟨rfl, rfl, Nat.le_of_ble_eq_true rfl, Nat.le_of_ble_eq_true rfl, rfl⟩

theorem unimpl92 : Statement (Instr.unimpl92) := 
  ⟨rfl, rfl, Nat.le_of_ble_eq_true rfl, Nat.le_of_ble_eq_true rfl, rfl⟩

theorem unimpl93 : Statement (Instr.unimpl93) := 
  ⟨rfl, rfl, Nat.le_of_ble_eq_true rfl, Nat.le_of_ble_eq_true rfl, rfl⟩

theorem styZpx (b : Byte) : Statement (Instr.styZpx b) := 
  ⟨rfl, rfl, Nat.le_of_ble_eq_true rfl, Nat.le_of_ble_eq_true rfl, rfl⟩

theorem staZpx (b : Byte) : Statement (Instr.staZpx b) := 
  ⟨rfl, rfl, Nat.le_of_ble_eq_true rfl, Nat.le_of_ble_eq_true rfl, rfl⟩

theorem stxZpy (b : Byte) : Statement (Instr.stxZpy b) := 
  ⟨rfl, rfl, Nat.le_of_ble_eq_true rfl, Nat.le_of_ble_eq_true rfl, rfl⟩

theorem unimpl97 : Statement (Instr.unimpl97) := 
  ⟨rfl, rfl, Nat.le_of_ble_eq_true rfl, Nat.le_of_ble_eq_true rfl, rfl⟩

theorem tya : Statement (Instr.tya) := 
  ⟨rfl, rfl, Nat.le_of_ble_eq_true rfl, Nat.le_of_ble_eq_true rfl, rfl⟩

theorem staAby (w : Addr) : Statement (Instr.staAby w) := 
  ⟨rfl, rfl, Nat.le_of_ble_eq_true rfl, Nat.le_of_ble_eq_true rfl, rfl⟩

theorem txs : Statement (Instr.txs) := 
  ⟨rfl, rfl, Nat.le_of_ble_eq_true rfl, Nat.le_of_ble_eq_true rfl, rfl⟩

theorem unimpl9B : Statement (Instr.unimpl9B) := 
  ⟨rfl, rfl, Nat.le_of_ble_eq_true rfl, Nat.le_of_ble_eq_true rfl, rfl⟩

theorem unimpl9C : Statement (Instr.unimpl9C) := 
  ⟨rfl, rfl, Nat.le_of_ble_eq_true rfl, Nat.le_of_ble_eq_true rfl, rfl⟩

theorem staAbx (w : Addr) : Statement (Instr.staAbx w) := 
  ⟨rfl, rfl, Nat.le_of_ble_eq_true rfl, Nat.le_of_ble_eq_true rfl, rfl⟩

theorem unimpl9E : Statement (Instr.unimpl9E) := 
  ⟨rfl, rfl, Nat.le_of_ble_eq_true rfl, Nat.le_of_ble_eq_true rfl, rfl⟩

theorem unimpl9F : Statement (Instr.unimpl9F) := 
  ⟨rfl, rfl, Nat.le_of_ble_eq_true rfl, Nat.le_of_ble_eq_true rfl, rfl⟩

theorem ldyImm (b : Byte) : Statement (Instr.ldyImm b) := 
  ⟨rfl, rfl, Nat.le_of_ble_eq_true rfl, Nat.le_of_ble_eq_true rfl, rfl⟩

theorem ldaInx (b : Byte) : Statement (Instr.ldaInx b) := 
  ⟨rfl, rfl, Nat.le_of_ble_eq_true rfl, Nat.le_of_ble_eq_true rfl, rfl⟩

theorem ldxImm (b : Byte) : Statement (Instr.ldxImm b) := 
  ⟨rfl, rfl, Nat.le_of_ble_eq_true rfl, Nat.le_of_ble_eq_true rfl, rfl⟩

theorem unimplA3 : Statement (Instr.unimplA3) := 
  ⟨rfl, rfl, Nat.le_of_ble_eq_true rfl, Nat.le_of_ble_eq_true rfl, rfl⟩

theorem ldyZp (b : Byte) : Statement (Instr.ldyZp b) := 
  ⟨rfl, rfl, Nat.le_of_ble_eq_true rfl, Nat.le_of_ble_eq_true rfl, rfl⟩

theorem ldaZp (b : Byte) : Statement (Instr.ldaZp b) := 
  ⟨rfl, rfl, Nat.le_of_ble_eq_true rfl, Nat.le_of_ble_eq_true rfl, rfl⟩

theorem ldxZp (b : Byte) : Statement (Instr.ldxZp b) := 
  ⟨rfl, rfl, Nat.le_of_ble_eq_true rfl, Nat.le_of_ble_eq_true rfl, rfl⟩

theorem unimplA7 : Statement (Instr.unimplA7) := 
  ⟨rfl, rfl, Nat.le_of_ble_eq_true rfl, Nat.le_of_ble_eq_true rfl, rfl⟩

theorem tay : Statement (Instr.tay) := 
  ⟨rfl, rfl, Nat.le_of_ble_eq_true rfl, Nat.le_of_ble_eq_true rfl, rfl⟩

theorem ldaImm (b : Byte) : Statement (Instr.ldaImm b) := 
  ⟨rfl, rfl, Nat.le_of_ble_eq_true rfl, Nat.le_of_ble_eq_true rfl, rfl⟩

theorem tax : Statement (Instr.tax) := 
  ⟨rfl, rfl, Nat.le_of_ble_eq_true rfl, Nat.le_of_ble_eq_true rfl, rfl⟩

theorem unimplAB : Statement (Instr.unimplAB) := 
  ⟨rfl, rfl, Nat.le_of_ble_eq_true rfl, Nat.le_of_ble_eq_true rfl, rfl⟩

theorem ldyAbs (w : Addr) : Statement (Instr.ldyAbs w) := 
  ⟨rfl, rfl, Nat.le_of_ble_eq_true rfl, Nat.le_of_ble_eq_true rfl, rfl⟩

theorem ldaAbs (w : Addr) : Statement (Instr.ldaAbs w) := 
  ⟨rfl, rfl, Nat.le_of_ble_eq_true rfl, Nat.le_of_ble_eq_true rfl, rfl⟩

theorem ldxAbs (w : Addr) : Statement (Instr.ldxAbs w) := 
  ⟨rfl, rfl, Nat.le_of_ble_eq_true rfl, Nat.le_of_ble_eq_true rfl, rfl⟩

theorem unimplAF : Statement (Instr.unimplAF) := 
  ⟨rfl, rfl, Nat.le_of_ble_eq_true rfl, Nat.le_of_ble_eq_true rfl, rfl⟩

theorem bcs (b : Byte) : Statement (Instr.bcs b) := 
  ⟨rfl, rfl, Nat.le_of_ble_eq_true rfl, Nat.le_of_ble_eq_true rfl, rfl⟩

theorem ldaIny (b : Byte) : Statement (Instr.ldaIny b) := 
  ⟨rfl, rfl, Nat.le_of_ble_eq_true rfl, Nat.le_of_ble_eq_true rfl, rfl⟩

theorem unimplB2 : Statement (Instr.unimplB2) := 
  ⟨rfl, rfl, Nat.le_of_ble_eq_true rfl, Nat.le_of_ble_eq_true rfl, rfl⟩

theorem unimplB3 : Statement (Instr.unimplB3) := 
  ⟨rfl, rfl, Nat.le_of_ble_eq_true rfl, Nat.le_of_ble_eq_true rfl, rfl⟩

theorem ldyZpx (b : Byte) : Statement (Instr.ldyZpx b) := 
  ⟨rfl, rfl, Nat.le_of_ble_eq_true rfl, Nat.le_of_ble_eq_true rfl, rfl⟩

theorem ldaZpx (b : Byte) : Statement (Instr.ldaZpx b) := 
  ⟨rfl, rfl, Nat.le_of_ble_eq_true rfl, Nat.le_of_ble_eq_true rfl, rfl⟩

theorem ldxZpy (b : Byte) : Statement (Instr.ldxZpy b) := 
  ⟨rfl, rfl, Nat.le_of_ble_eq_true rfl, Nat.le_of_ble_eq_true rfl, rfl⟩

theorem unimplB7 : Statement (Instr.unimplB7) := 
  ⟨rfl, rfl, Nat.le_of_ble_eq_true rfl, Nat.le_of_ble_eq_true rfl, rfl⟩

theorem clv : Statement (Instr.clv) := 
  ⟨rfl, rfl, Nat.le_of_ble_eq_true rfl, Nat.le_of_ble_eq_true rfl, rfl⟩

theorem ldaAby (w : Addr) : Statement (Instr.ldaAby w) := 
  ⟨rfl, rfl, Nat.le_of_ble_eq_true rfl, Nat.le_of_ble_eq_true rfl, rfl⟩

theorem tsx : Statement (Instr.tsx) := 
  ⟨rfl, rfl, Nat.le_of_ble_eq_true rfl, Nat.le_of_ble_eq_true rfl, rfl⟩

theorem unimplBB : Statement (Instr.unimplBB) := 
  ⟨rfl, rfl, Nat.le_of_ble_eq_true rfl, Nat.le_of_ble_eq_true rfl, rfl⟩

theorem ldyAbx (w : Addr) : Statement (Instr.ldyAbx w) := 
  ⟨rfl, rfl, Nat.le_of_ble_eq_true rfl, Nat.le_of_ble_eq_true rfl, rfl⟩

theorem ldaAbx (w : Addr) : Statement (Instr.ldaAbx w) := 
  ⟨rfl, rfl, Nat.le_of_ble_eq_true rfl, Nat.le_of_ble_eq_true rfl, rfl⟩

theorem ldxAby (w : Addr) : Statement (Instr.ldxAby w) := 
  ⟨rfl, rfl, Nat.le_of_ble_eq_true rfl, Nat.le_of_ble_eq_true rfl, rfl⟩

theorem unimplBF : Statement (Instr.unimplBF) := 
  ⟨rfl, rfl, Nat.le_of_ble_eq_true rfl, Nat.le_of_ble_eq_true rfl, rfl⟩

theorem cpyImm (b : Byte) : Statement (Instr.cpyImm b) := 
  ⟨rfl, rfl, Nat.le_of_ble_eq_true rfl, Nat.le_of_ble_eq_true rfl, rfl⟩

theorem cmpInx (b : Byte) : Statement (Instr.cmpInx b) := 
  ⟨rfl, rfl, Nat.le_of_ble_eq_true rfl, Nat.le_of_ble_eq_true rfl, rfl⟩

theorem unimplC2 : Statement (Instr.unimplC2) := 
  ⟨rfl, rfl, Nat.le_of_ble_eq_true rfl, Nat.le_of_ble_eq_true rfl, rfl⟩

theorem unimplC3 : Statement (Instr.unimplC3) := 
  ⟨rfl, rfl, Nat.le_of_ble_eq_true rfl, Nat.le_of_ble_eq_true rfl, rfl⟩

theorem cpyZp (b : Byte) : Statement (Instr.cpyZp b) := 
  ⟨rfl, rfl, Nat.le_of_ble_eq_true rfl, Nat.le_of_ble_eq_true rfl, rfl⟩

theorem cmpZp (b : Byte) : Statement (Instr.cmpZp b) := 
  ⟨rfl, rfl, Nat.le_of_ble_eq_true rfl, Nat.le_of_ble_eq_true rfl, rfl⟩

theorem decZp (b : Byte) : Statement (Instr.decZp b) := 
  ⟨rfl, rfl, Nat.le_of_ble_eq_true rfl, Nat.le_of_ble_eq_true rfl, rfl⟩

theorem unimplC7 : Statement (Instr.unimplC7) := 
  ⟨rfl, rfl, Nat.le_of_ble_eq_true rfl, Nat.le_of_ble_eq_true rfl, rfl⟩

theorem iny : Statement (Instr.iny) := 
  ⟨rfl, rfl, Nat.le_of_ble_eq_true rfl, Nat.le_of_ble_eq_true rfl, rfl⟩

theorem cmpImm (b : Byte) : Statement (Instr.cmpImm b) := 
  ⟨rfl, rfl, Nat.le_of_ble_eq_true rfl, Nat.le_of_ble_eq_true rfl, rfl⟩

theorem dex : Statement (Instr.dex) := 
  ⟨rfl, rfl, Nat.le_of_ble_eq_true rfl, Nat.le_of_ble_eq_true rfl, rfl⟩

theorem unimplCB : Statement (Instr.unimplCB) := 
  ⟨rfl, rfl, Nat.le_of_ble_eq_true rfl, Nat.le_of_ble_eq_true rfl, rfl⟩

theorem cpyAbs (w : Addr) : Statement (Instr.cpyAbs w) := 
  ⟨rfl, rfl, Nat.le_of_ble_eq_true rfl, Nat.le_of_ble_eq_true rfl, rfl⟩

theorem cmpAbs (w : Addr) : Statement (Instr.cmpAbs w) := 
  ⟨rfl, rfl, Nat.le_of_ble_eq_true rfl, Nat.le_of_ble_eq_true rfl, rfl⟩

theorem decAbs (w : Addr) : Statement (Instr.decAbs w) := 
  ⟨rfl, rfl, Nat.le_of_ble_eq_true rfl, Nat.le_of_ble_eq_true rfl, rfl⟩

theorem unimplCF : Statement (Instr.unimplCF) := 
  ⟨rfl, rfl, Nat.le_of_ble_eq_true rfl, Nat.le_of_ble_eq_true rfl, rfl⟩

theorem bne (b : Byte) : Statement (Instr.bne b) := 
  ⟨rfl, rfl, Nat.le_of_ble_eq_true rfl, Nat.le_of_ble_eq_true rfl, rfl⟩

theorem cmpIny (b : Byte) : Statement (Instr.cmpIny b) := 
  ⟨rfl, rfl, Nat.le_of_ble_eq_true rfl, Nat.le_of_ble_eq_true rfl, rfl⟩

theorem unimplD2 : Statement (Instr.unimplD2) := 
  ⟨rfl, rfl, Nat.le_of_ble_eq_true rfl, Nat.le_of_ble_eq_true rfl, rfl⟩

theorem unimplD3 : Statement (Instr.unimplD3) := 
  ⟨rfl, rfl, Nat.le_of_ble_eq_true rfl, Nat.le_of_ble_eq_true rfl, rfl⟩

theorem unimplD4 : Statement (Instr.unimplD4) := 
  ⟨rfl, rfl, Nat.le_of_ble_eq_true rfl, Nat.le_of_ble_eq_true rfl, rfl⟩

theorem cmpZpx (b : Byte) : Statement (Instr.cmpZpx b) := 
  ⟨rfl, rfl, Nat.le_of_ble_eq_true rfl, Nat.le_of_ble_eq_true rfl, rfl⟩

theorem decZpx (b : Byte) : Statement (Instr.decZpx b) := 
  ⟨rfl, rfl, Nat.le_of_ble_eq_true rfl, Nat.le_of_ble_eq_true rfl, rfl⟩

theorem unimplD7 : Statement (Instr.unimplD7) := 
  ⟨rfl, rfl, Nat.le_of_ble_eq_true rfl, Nat.le_of_ble_eq_true rfl, rfl⟩

theorem cld : Statement (Instr.cld) := 
  ⟨rfl, rfl, Nat.le_of_ble_eq_true rfl, Nat.le_of_ble_eq_true rfl, rfl⟩

theorem cmpAby (w : Addr) : Statement (Instr.cmpAby w) := 
  ⟨rfl, rfl, Nat.le_of_ble_eq_true rfl, Nat.le_of_ble_eq_true rfl, rfl⟩

theorem unimplDA : Statement (Instr.unimplDA) := 
  ⟨rfl, rfl, Nat.le_of_ble_eq_true rfl, Nat.le_of_ble_eq_true rfl, rfl⟩

theorem unimplDB : Statement (Instr.unimplDB) := 
  ⟨rfl, rfl, Nat.le_of_ble_eq_true rfl, Nat.le_of_ble_eq_true rfl, rfl⟩

theorem unimplDC : Statement (Instr.unimplDC) := 
  ⟨rfl, rfl, Nat.le_of_ble_eq_true rfl, Nat.le_of_ble_eq_true rfl, rfl⟩

theorem cmpAbx (w : Addr) : Statement (Instr.cmpAbx w) := 
  ⟨rfl, rfl, Nat.le_of_ble_eq_true rfl, Nat.le_of_ble_eq_true rfl, rfl⟩

theorem decAbx (w : Addr) : Statement (Instr.decAbx w) := 
  ⟨rfl, rfl, Nat.le_of_ble_eq_true rfl, Nat.le_of_ble_eq_true rfl, rfl⟩

theorem unimplDF : Statement (Instr.unimplDF) := 
  ⟨rfl, rfl, Nat.le_of_ble_eq_true rfl, Nat.le_of_ble_eq_true rfl, rfl⟩

theorem cpxImm (b : Byte) : Statement (Instr.cpxImm b) := 
  ⟨rfl, rfl, Nat.le_of_ble_eq_true rfl, Nat.le_of_ble_eq_true rfl, rfl⟩

theorem sbcInx (b : Byte) : Statement (Instr.sbcInx b) := 
  ⟨rfl, rfl, Nat.le_of_ble_eq_true rfl, Nat.le_of_ble_eq_true rfl, rfl⟩

theorem unimplE2 : Statement (Instr.unimplE2) := 
  ⟨rfl, rfl, Nat.le_of_ble_eq_true rfl, Nat.le_of_ble_eq_true rfl, rfl⟩

theorem unimplE3 : Statement (Instr.unimplE3) := 
  ⟨rfl, rfl, Nat.le_of_ble_eq_true rfl, Nat.le_of_ble_eq_true rfl, rfl⟩

theorem cpxZp (b : Byte) : Statement (Instr.cpxZp b) := 
  ⟨rfl, rfl, Nat.le_of_ble_eq_true rfl, Nat.le_of_ble_eq_true rfl, rfl⟩

theorem sbcZp (b : Byte) : Statement (Instr.sbcZp b) := 
  ⟨rfl, rfl, Nat.le_of_ble_eq_true rfl, Nat.le_of_ble_eq_true rfl, rfl⟩

theorem incZp (b : Byte) : Statement (Instr.incZp b) := 
  ⟨rfl, rfl, Nat.le_of_ble_eq_true rfl, Nat.le_of_ble_eq_true rfl, rfl⟩

theorem unimplE7 : Statement (Instr.unimplE7) := 
  ⟨rfl, rfl, Nat.le_of_ble_eq_true rfl, Nat.le_of_ble_eq_true rfl, rfl⟩

theorem inx : Statement (Instr.inx) := 
  ⟨rfl, rfl, Nat.le_of_ble_eq_true rfl, Nat.le_of_ble_eq_true rfl, rfl⟩

theorem sbcImm (b : Byte) : Statement (Instr.sbcImm b) := 
  ⟨rfl, rfl, Nat.le_of_ble_eq_true rfl, Nat.le_of_ble_eq_true rfl, rfl⟩

theorem nop : Statement (Instr.nop) := 
  ⟨rfl, rfl, Nat.le_of_ble_eq_true rfl, Nat.le_of_ble_eq_true rfl, rfl⟩

theorem unimplEB : Statement (Instr.unimplEB) := 
  ⟨rfl, rfl, Nat.le_of_ble_eq_true rfl, Nat.le_of_ble_eq_true rfl, rfl⟩

theorem cpxAbs (w : Addr) : Statement (Instr.cpxAbs w) := 
  ⟨rfl, rfl, Nat.le_of_ble_eq_true rfl, Nat.le_of_ble_eq_true rfl, rfl⟩

theorem sbcAbs (w : Addr) : Statement (Instr.sbcAbs w) := 
  ⟨rfl, rfl, Nat.le_of_ble_eq_true rfl, Nat.le_of_ble_eq_true rfl, rfl⟩

theorem incAbs (w : Addr) : Statement (Instr.incAbs w) := 
  ⟨rfl, rfl, Nat.le_of_ble_eq_true rfl, Nat.le_of_ble_eq_true rfl, rfl⟩

theorem unimplEF : Statement (Instr.unimplEF) := 
  ⟨rfl, rfl, Nat.le_of_ble_eq_true rfl, Nat.le_of_ble_eq_true rfl, rfl⟩

theorem beq (b : Byte) : Statement (Instr.beq b) := 
  ⟨rfl, rfl, Nat.le_of_ble_eq_true rfl, Nat.le_of_ble_eq_true rfl, rfl⟩

theorem sbcIny (b : Byte) : Statement (Instr.sbcIny b) := 
  ⟨rfl, rfl, Nat.le_of_ble_eq_true rfl, Nat.le_of_ble_eq_true rfl, rfl⟩

theorem unimplF2 : Statement (Instr.unimplF2) := 
  ⟨rfl, rfl, Nat.le_of_ble_eq_true rfl, Nat.le_of_ble_eq_true rfl, rfl⟩

theorem unimplF3 : Statement (Instr.unimplF3) := 
  ⟨rfl, rfl, Nat.le_of_ble_eq_true rfl, Nat.le_of_ble_eq_true rfl, rfl⟩

theorem unimplF4 : Statement (Instr.unimplF4) := 
  ⟨rfl, rfl, Nat.le_of_ble_eq_true rfl, Nat.le_of_ble_eq_true rfl, rfl⟩

theorem sbcZpx (b : Byte) : Statement (Instr.sbcZpx b) := 
  ⟨rfl, rfl, Nat.le_of_ble_eq_true rfl, Nat.le_of_ble_eq_true rfl, rfl⟩

theorem incZpx (b : Byte) : Statement (Instr.incZpx b) := 
  ⟨rfl, rfl, Nat.le_of_ble_eq_true rfl, Nat.le_of_ble_eq_true rfl, rfl⟩

theorem unimplF7 : Statement (Instr.unimplF7) := 
  ⟨rfl, rfl, Nat.le_of_ble_eq_true rfl, Nat.le_of_ble_eq_true rfl, rfl⟩

theorem sed : Statement (Instr.sed) := 
  ⟨rfl, rfl, Nat.le_of_ble_eq_true rfl, Nat.le_of_ble_eq_true rfl, rfl⟩

theorem sbcAby (w : Addr) : Statement (Instr.sbcAby w) := 
  ⟨rfl, rfl, Nat.le_of_ble_eq_true rfl, Nat.le_of_ble_eq_true rfl, rfl⟩

theorem unimplFA : Statement (Instr.unimplFA) := 
  ⟨rfl, rfl, Nat.le_of_ble_eq_true rfl, Nat.le_of_ble_eq_true rfl, rfl⟩

theorem unimplFB : Statement (Instr.unimplFB) := 
  ⟨rfl, rfl, Nat.le_of_ble_eq_true rfl, Nat.le_of_ble_eq_true rfl, rfl⟩

theorem unimplFC : Statement (Instr.unimplFC) := 
  ⟨rfl, rfl, Nat.le_of_ble_eq_true rfl, Nat.le_of_ble_eq_true rfl, rfl⟩

theorem sbcAbx (w : Addr) : Statement (Instr.sbcAbx w) := 
  ⟨rfl, rfl, Nat.le_of_ble_eq_true rfl, Nat.le_of_ble_eq_true rfl, rfl⟩

theorem incAbx (w : Addr) : Statement (Instr.incAbx w) := 
  ⟨rfl, rfl, Nat.le_of_ble_eq_true rfl, Nat.le_of_ble_eq_true rfl, rfl⟩

theorem unimplFF : Statement (Instr.unimplFF) := 
  ⟨rfl, rfl, Nat.le_of_ble_eq_true rfl, Nat.le_of_ble_eq_true rfl, rfl⟩

end Sys2Proof.Laws.Encoding
end

