-- ==== Sys2Proof/Laws/Step.lean ====
section
/-! SUPPORT. What a fetch and a step do, said once. -/

namespace Sys2Proof.Machine

/-- A fetch moves PC past the opcode byte and changes nothing else but the count of free reads (R224, R46). -/
theorem fetch_state (s : State) : (fetch s).2 = { s with pc := s.pc + 1, freeReads := (fetch s).2.freeReads } := by
  unfold fetch
  simp only
  split
  · rw [memRead_state]; rfl
  · rw [memRead_state, memRead_state]; rfl
  · rw [readWord_state, memRead_state]; rfl

/-- A step of a Running engine is `exec` of the instruction it fetches, with `cond` OK (R224, R201). -/
theorem step_running {s : State} (h : s.engine = .running) :
    step s = exec (fetch (s.report .ok)).1 (fetch (s.report .ok)).2 := by
  simp [step, h]

/-- A step of an engine that is not Running is refused (R221, D37). -/
theorem step_notRunning {s : State} (h : s.engine ≠ .running) : step s = .refused .notRunning := by
  cases he : s.engine <;> simp_all [step]

end Sys2Proof.Machine
end

