-- ==== Sys2Proof/Tests/Slice0.lean ====
section
/-! SUPPORT. Tests. Expected values come from spec/95_test_vectors.md (the vector's name stands above each test) or from the
section named there; the words of the decode tests are written out from the tables of 30_encoding.md. -/

namespace Sys2Proof.Machine

/-! ### WellFormed: an ill-formed term for each check, refused (no ill-formed `Instr` exists) -/

/-- NROM parameters with a 0x4000-byte cartridge. -/
def nromParams : Params := { Params.default with mapper := .nrom, prgLength := 0x4000 }

theorem test_wf_accepts : (Params.default.wf && nromParams.wf && { nromParams with prgLength := 0x8000 }.wf) = true := by decide

theorem test_wf_refuses_cartridgeLength : { nromParams with prgLength := 0x4001 }.cartridgeOk = false := by decide

theorem test_powerOn_refuses_cartridgeLength : powerOn { nromParams with prgLength := 0 } = .refused .cartridgeLength := rfl

theorem test_wf_refuses_prg_out_of_range : { nromParams with prg := [(0x4000, 1)] }.prgOk = false := by decide

theorem test_wf_refuses_dummy_out_of_range : { Params.default with dummyInit := [(0x10000, 1)] }.dummyOk = false := by decide

theorem test_wf_refuses_ram_out_of_range : { Params.default with ramInit := [(0x800, 1)] }.ramOk = false := by decide

theorem test_wf_refuses_unsorted : { Params.default with ramInit := [(5, 1), (4, 1)] }.ramOk = false := by decide

theorem test_wf_refuses_repeated : { Params.default with ramInit := [(5, 1), (5, 2)] }.ramOk = false := by decide

theorem test_wf_refuses_zero_entry : { Params.default with ramInit := [(5, 0)] }.ramOk = false := by decide

theorem test_powerOn_refuses_malformedArrays :
    powerOn { Params.default with ramInit := [(0x800, 1)] } = .refused .malformedArrays := rfl

/-- R221, D37: a step before `reset()` has no meaning. -/
theorem test_step_before_reset : step { State.reset with engine := .constructed } = .refused .notRunning := rfl

theorem test_reset_memory : (State.reset.memoryOk && State.reset.isRunning) = true := by decide

/-! ### Decode: `group sel cat` written bit by bit (R61 to R65, R68), then the operand bytes -/

theorem test_decode_category01 :
    decode [0b000_000_01, 0x20] = .ok (.oraInx 0x20, []) ∧ decode [0b001_100_01, 0x40] = .ok (.andIny 0x40, []) ∧
    decode [0b010_110_01, 0x34, 0x12] = .ok (.eorAby 0x1234, []) ∧ decode [0b011_101_01, 0xF0] = .ok (.adcZpx 0xF0, []) ∧
    decode [0b110_001_01, 0x20] = .ok (.cmpZp 0x20, []) ∧ decode [0b111_011_01, 0x00, 0x03] = .ok (.sbcAbs 0x0300, []) :=
  ⟨rfl, rfl, rfl, rfl, rfl, rfl⟩

theorem test_decode_category10 :
    decode [0b001_010_10] = .ok (.rolAcc, []) ∧ decode [0b010_001_10, 0x10] = .ok (.lsrZp 0x10, []) ∧
    decode [0b011_111_10, 0xFF, 0x1F] = .ok (.rorAbx 0x1FFF, []) ∧ decode [0b100_101_10, 0x10] = .ok (.stxZpy 0x10, []) ∧
    decode [0b101_111_10, 0x00, 0x03] = .ok (.ldxAby 0x0300, []) ∧ decode [0b110_010_10] = .ok (.dex, []) ∧
    decode [0b111_010_10] = .ok (.nop, []) ∧ decode [0b100_110_10] = .ok (.txs, []) :=
  ⟨rfl, rfl, rfl, rfl, rfl, rfl, rfl, rfl⟩

theorem test_decode_category00 :
    decode [0b001_000_00, 0x00, 0x90] = .ok (.jsr 0x9000, []) ∧ decode [0b010_011_00, 0x34, 0x12] = .ok (.jmpAbs 0x1234, []) ∧
    decode [0b000_100_00, 0x10] = .ok (.bpl 0x10, []) ∧ decode [0b010_000_00] = .ok (.rti, []) ∧
    decode [0b001_011_00, 0x00, 0x40] = .ok (.bitAbs 0x4000, []) ∧ decode [0b100_101_00, 0x10] = .ok (.styZpx 0x10, []) ∧
    decode [0b000_010_00] = .ok (.php, []) ∧ decode [0b100_110_00] = .ok (.tya, []) ∧
    decode [0b111_000_00, 0x05] = .ok (.cpxImm 0x05, []) :=
  ⟨rfl, rfl, rfl, rfl, rfl, rfl, rfl, rfl, rfl⟩

theorem test_decode_missing_bytes :
    decode [] = .error .missingOpcode ∧ decode [0xA9] = .error .missingOperand ∧ decode [0xAD, 0x34] = .error .missingOperand :=
  ⟨rfl, rfl, rfl⟩

/-- The numbering of spec/opcode_table.json: bit 0 is the least significant bit of the opcode byte. -/
theorem test_decodeTableWord :
    decodeTableWord 24 0x1234AD = some (.ldaAbs 0x1234) ∧ decodeTableWord 8 0xA9 = some (.ldaImm 0) ∧
    decodeTableWord 8 0xFF = some .unimplFF :=
  ⟨rfl, rfl, rfl⟩

/-! ### One step -/

/-- The memory bytes of a small state, placed as the parameters of a run place them. -/
def placed (cells : List (Addr × Byte)) (s : State) : State := cells.foldr (fun c t => loadByte c.1 c.2 t) s

/-- The default start of 95_test_vectors.md, PC at the code. -/
def dummyStart : State := { State.reset with pc := 0x8000 }

/-- The same with the NROM-like mapper. -/
def nromStart : State := { dummyStart with mapper := .nrom, prgExtended := true }

/-- A step answers a next state that passes. -/
def stepGives (s : State) (passes : State → Bool) : Bool :=
  match step s with
  | .next t => passes t
  | .fault _ => false
  | .refused _ => false

theorem test_withFetchWord :
    stepGives (State.reset.withFetchWord 16 0x80A9) (fun t => t.a == 0x80 && t.pc == 2 && t.flags.pack == 0xA4) ∧
    stepGives (State.reset.withFetchWord 8 0xA9) (fun t => t.a == 0 && t.flags.pack == 0x26) ∧
    stepGives ({ nromStart with pc := 0x5000 }.withFetchWord 8 0xE8) (fun t => t.x == 1 && t.pc == 1) := by decide

/-- AM4. -/
theorem test_LDA_zeroPageX_no_wrap :
    stepGives (placed [(0x8000, 0xB5), (0x8001, 0xF0), (0x0110, 0x33), (0x0010, 0x99)]
        { dummyStart with x := 0x20 })
      (fun t => t.cond == .ok && t.a == 0x33 && t.x == 0x20 && t.y == 0x00 && t.sp == 0xFD && t.pc == 0x8002 &&
        t.flags.pack == 0x24) := by decide

/-- AM9. -/
theorem test_LDA_absoluteX_wraps :
    stepGives (placed [(0x8000, 0xBD), (0x8001, 0xF0), (0x8002, 0xFF), (0x0010, 0x88)]
        { dummyStart with x := 0x20 })
      (fun t => t.cond == .ok && t.a == 0x88 && t.x == 0x20 && t.y == 0x00 && t.sp == 0xFD && t.pc == 0x8003 &&
        t.flags.pack == 0xA4) := by decide

/-- AM12. -/
theorem test_LDA_indirectX_no_wrap :
    stepGives (placed [(0x8000, 0xA1), (0x8001, 0xF0), (0x0110, 0x40), (0x0111, 0x03), (0x0010, 0x00), (0x0011,
        0x06), (0x0340, 0xBB), (0x0600, 0xEE)]
        { dummyStart with x := 0x20 })
      (fun t => t.cond == .ok && t.a == 0xBB && t.x == 0x20 && t.y == 0x00 && t.sp == 0xFD && t.pc == 0x8002 &&
        t.flags.pack == 0xA4) := by decide

/-- AM15. -/
theorem test_LDA_indirectY_pointer_at_FF :
    stepGives (placed [(0x8000, 0xB1), (0x8001, 0xFF), (0x00FF, 0x00), (0x0100, 0x04), (0x0000, 0x05), (0x0401,
        0x12), (0x0501, 0xEE)]
        { dummyStart with y := 0x01 })
      (fun t => t.cond == .ok && t.a == 0x12 && t.x == 0x00 && t.y == 0x01 && t.sp == 0xFD && t.pc == 0x8002 &&
        t.flags.pack == 0x24) := by decide

/-- AM18. -/
theorem test_JMP_indirect_page_end :
    stepGives (placed [(0x8000, 0x6C), (0x8001, 0xFF), (0x8002, 0x02), (0x02FF, 0x78), (0x0300, 0x56), (0x0200, 0xEE)]
        dummyStart)
      (fun t => t.cond == .ok && t.a == 0x00 && t.x == 0x00 && t.y == 0x00 && t.sp == 0xFD && t.pc == 0x5678 &&
        t.flags.pack == 0x24) := by decide

/-- LG1. -/
theorem test_ORA :
    stepGives (placed [(0x8000, 0x09), (0x8001, 0x80)]
        { dummyStart with a := 0x0F })
      (fun t => t.cond == .ok && t.a == 0x8F && t.x == 0x00 && t.y == 0x00 && t.sp == 0xFD && t.pc == 0x8002 &&
        t.flags.pack == 0xA4) := by decide

/-- LG3. -/
theorem test_AND :
    stepGives (placed [(0x8000, 0x29), (0x8001, 0x0F)]
        { dummyStart with a := 0xF0 })
      (fun t => t.cond == .ok && t.a == 0x00 && t.x == 0x00 && t.y == 0x00 && t.sp == 0xFD && t.pc == 0x8002 &&
        t.flags.pack == 0x26) := by decide

/-- LG5. -/
theorem test_EOR :
    stepGives (placed [(0x8000, 0x49), (0x8001, 0x0F)]
        { dummyStart with a := 0xFF })
      (fun t => t.cond == .ok && t.a == 0xF0 && t.x == 0x00 && t.y == 0x00 && t.sp == 0xFD && t.pc == 0x8002 &&
        t.flags.pack == 0xA4) := by decide

/-- LG10. -/
theorem test_BIT :
    stepGives (placed [(0x8000, 0x24), (0x8001, 0x10), (0x0010, 0xC0)]
        { dummyStart with a := 0x01 })
      (fun t => t.cond == .ok && t.a == 0x01 && t.x == 0x00 && t.y == 0x00 && t.sp == 0xFD && t.pc == 0x8002 &&
        t.flags.pack == 0xE6) := by decide

/-- LG13. -/
theorem test_BIT_stub :
    stepGives (placed [(0x8000, 0x2C), (0x8001, 0x00), (0x8002, 0x40)]
        { dummyStart with a := 0xFF, flags := { Flags.initial with n := true, v := true } })
      (fun t => t.cond == .ok && t.a == 0xFF && t.x == 0x00 && t.y == 0x00 && t.sp == 0xFD && t.pc == 0x8003 &&
        t.flags.pack == 0x26) := by decide

/-- ADC4. -/
theorem test_ADC_overflow :
    stepGives (placed [(0x8000, 0x69), (0x8001, 0x01)]
        { dummyStart with a := 0x7F, flags := { Flags.initial with c := false } })
      (fun t => t.cond == .ok && t.a == 0x80 && t.x == 0x00 && t.y == 0x00 && t.sp == 0xFD && t.pc == 0x8002 &&
        t.flags.pack == 0xE4) := by decide

/-- ADC11. -/
theorem test_ADC_with_carry_in :
    stepGives (placed [(0x8000, 0x69), (0x8001, 0x00)]
        { dummyStart with a := 0xFF, adcCarryIn := true, flags := { Flags.initial with c := true } })
      (fun t => t.cond == .ok && t.a == 0x00 && t.x == 0x00 && t.y == 0x00 && t.sp == 0xFD && t.pc == 0x8002 &&
        t.flags.pack == 0x27) := by decide

/-- SBC5. -/
theorem test_SBC_borrow :
    stepGives (placed [(0x8000, 0xE9), (0x8001, 0x01)]
        { dummyStart with a := 0x00, flags := { Flags.initial with c := true } })
      (fun t => t.cond == .ok && t.a == 0xFF && t.x == 0x00 && t.y == 0x00 && t.sp == 0xFD && t.pc == 0x8002 &&
        t.flags.pack == 0xE4) := by decide

/-- SBC9. -/
theorem test_SBC_signs_differ :
    stepGives (placed [(0x8000, 0xE9), (0x8001, 0xB0)]
        { dummyStart with a := 0x50, flags := { Flags.initial with c := true } })
      (fun t => t.cond == .ok && t.a == 0xA0 && t.x == 0x00 && t.y == 0x00 && t.sp == 0xFD && t.pc == 0x8002 &&
        t.flags.pack == 0xA4) := by decide

/-- CP4. -/
theorem test_CMP_equal_negative :
    stepGives (placed [(0x8000, 0xC9), (0x8001, 0x80)]
        { dummyStart with a := 0x80 })
      (fun t => t.cond == .ok && t.a == 0x80 && t.x == 0x00 && t.y == 0x00 && t.sp == 0xFD && t.pc == 0x8002 &&
        t.flags.pack == 0xA7) := by decide

/-- CP3. -/
theorem test_CMP_less :
    stepGives (placed [(0x8000, 0xC9), (0x8001, 0x3F)]
        { dummyStart with a := 0x3E })
      (fun t => t.cond == .ok && t.a == 0x3E && t.x == 0x00 && t.y == 0x00 && t.sp == 0xFD && t.pc == 0x8002 &&
        t.flags.pack == 0x24) := by decide

/-- CP11. -/
theorem test_CPX_less :
    stepGives (placed [(0x8000, 0xE0), (0x8001, 0x3F)]
        { dummyStart with x := 0x3E })
      (fun t => t.cond == .ok && t.a == 0x00 && t.x == 0x3E && t.y == 0x00 && t.sp == 0xFD && t.pc == 0x8002 &&
        t.flags.pack == 0xA4) := by decide

/-- CP19. -/
theorem test_CPY_less :
    stepGives (placed [(0x8000, 0xC0), (0x8001, 0x3F)]
        { dummyStart with y := 0x3E })
      (fun t => t.cond == .ok && t.a == 0x00 && t.x == 0x00 && t.y == 0x3E && t.sp == 0xFD && t.pc == 0x8002 &&
        t.flags.pack == 0xA4) := by decide

/-- SH2. -/
theorem test_ASL :
    stepGives (placed [(0x8000, 0x0A)]
        { dummyStart with a := 0x80 })
      (fun t => t.cond == .ok && t.a == 0x00 && t.x == 0x00 && t.y == 0x00 && t.sp == 0xFD && t.pc == 0x8001 &&
        t.flags.pack == 0x27) := by decide

/-- SH15. -/
theorem test_ASL_zeroPageX :
    stepGives (placed [(0x8000, 0x16), (0x8001, 0xF0), (0x0110, 0x01), (0x0010, 0x40)]
        { dummyStart with x := 0x20 })
      (fun t => t.cond == .ok && t.a == 0x00 && t.x == 0x20 && t.y == 0x00 && t.sp == 0xFD && t.pc == 0x8002 &&
        t.flags.pack == 0x24 && t.peek 0x0110 == some 0x02 && t.peek 0x0010 == some 0x40) := by decide

/-- SH7. -/
theorem test_ROL :
    stepGives (placed [(0x8000, 0x2A)]
        { dummyStart with a := 0x80, flags := { Flags.initial with c := false } })
      (fun t => t.cond == .ok && t.a == 0x00 && t.x == 0x00 && t.y == 0x00 && t.sp == 0xFD && t.pc == 0x8001 &&
        t.flags.pack == 0x27) := by decide

/-- SH13. -/
theorem test_ROL_memory :
    stepGives (placed [(0x8000, 0x2E), (0x8001, 0x00), (0x8002, 0x03), (0x0300, 0x7F)]
        { dummyStart with flags := { Flags.initial with c := true } })
      (fun t => t.cond == .ok && t.a == 0x00 && t.x == 0x00 && t.y == 0x00 && t.sp == 0xFD && t.pc == 0x8003 &&
        t.flags.pack == 0xA4 && t.peek 0x0300 == some 0xFF) := by decide

/-- SH4. -/
theorem test_LSR :
    stepGives (placed [(0x8000, 0x4A)]
        { dummyStart with a := 0x01 })
      (fun t => t.cond == .ok && t.a == 0x00 && t.x == 0x00 && t.y == 0x00 && t.sp == 0xFD && t.pc == 0x8001 &&
        t.flags.pack == 0x27) := by decide

/-- SH12. -/
theorem test_LSR_memory :
    stepGives (placed [(0x8000, 0x56), (0x8001, 0x10), (0x0015, 0x02)]
        { dummyStart with x := 0x05 })
      (fun t => t.cond == .ok && t.a == 0x00 && t.x == 0x05 && t.y == 0x00 && t.sp == 0xFD && t.pc == 0x8002 &&
        t.flags.pack == 0x24 && t.peek 0x0015 == some 0x01) := by decide

/-- SH9. -/
theorem test_ROR :
    stepGives (placed [(0x8000, 0x6A)]
        { dummyStart with a := 0x02, flags := { Flags.initial with c := true } })
      (fun t => t.cond == .ok && t.a == 0x81 && t.x == 0x00 && t.y == 0x00 && t.sp == 0xFD && t.pc == 0x8001 &&
        t.flags.pack == 0xA4) := by decide

/-- SH14. -/
theorem test_ROR_memory :
    stepGives (placed [(0x8000, 0x7E), (0x8001, 0x00), (0x8002, 0x03), (0x0301, 0x00)]
        { dummyStart with x := 0x01, flags := { Flags.initial with c := true } })
      (fun t => t.cond == .ok && t.a == 0x00 && t.x == 0x01 && t.y == 0x00 && t.sp == 0xFD && t.pc == 0x8003 &&
        t.flags.pack == 0xA4 && t.peek 0x0301 == some 0x80) := by decide

/-- ID7. -/
theorem test_INC_mirror :
    stepGives (placed [(0x8000, 0xEE), (0x8001, 0x10), (0x8002, 0x08), (0x0010, 0x41)]
        dummyStart)
      (fun t => t.cond == .ok && t.a == 0x00 && t.x == 0x00 && t.y == 0x00 && t.sp == 0xFD && t.pc == 0x8003 &&
        t.flags.pack == 0x24 && t.peek 0x0010 == some 0x42 && t.peek 0x0810 == some 0x42 && t.peek 0x1810 == some
        0x42) := by decide

/-- ID1. -/
theorem test_INC_wrap :
    stepGives (placed [(0x8000, 0xE6), (0x8001, 0x10), (0x0010, 0xFF)]
        { dummyStart with flags := { Flags.initial with c := true, v := true } })
      (fun t => t.cond == .ok && t.a == 0x00 && t.x == 0x00 && t.y == 0x00 && t.sp == 0xFD && t.pc == 0x8002 &&
        t.flags.pack == 0x67 && t.peek 0x0010 == some 0x00) := by decide

/-- ID3. -/
theorem test_DEC_wrap :
    stepGives (placed [(0x8000, 0xC6), (0x8001, 0x10), (0x0010, 0x00)]
        dummyStart)
      (fun t => t.cond == .ok && t.a == 0x00 && t.x == 0x00 && t.y == 0x00 && t.sp == 0xFD && t.pc == 0x8002 &&
        t.flags.pack == 0xA4 && t.peek 0x0010 == some 0xFF) := by decide

/-- ID8. -/
theorem test_INX :
    stepGives (placed [(0x8000, 0xE8)]
        { dummyStart with x := 0xFF })
      (fun t => t.cond == .ok && t.a == 0x00 && t.x == 0x00 && t.y == 0x00 && t.sp == 0xFD && t.pc == 0x8001 &&
        t.flags.pack == 0x26) := by decide

/-- ID9. -/
theorem test_INY :
    stepGives (placed [(0x8000, 0xC8)]
        { dummyStart with y := 0x7F })
      (fun t => t.cond == .ok && t.a == 0x00 && t.x == 0x00 && t.y == 0x80 && t.sp == 0xFD && t.pc == 0x8001 &&
        t.flags.pack == 0xA4) := by decide

/-- ID10. -/
theorem test_DEX :
    stepGives (placed [(0x8000, 0xCA)]
        { dummyStart with x := 0x00 })
      (fun t => t.cond == .ok && t.a == 0x00 && t.x == 0xFF && t.y == 0x00 && t.sp == 0xFD && t.pc == 0x8001 &&
        t.flags.pack == 0xA4) := by decide

/-- ID11. -/
theorem test_DEY :
    stepGives (placed [(0x8000, 0x88)]
        { dummyStart with y := 0x01, flags := { Flags.initial with c := true } })
      (fun t => t.cond == .ok && t.a == 0x00 && t.x == 0x00 && t.y == 0x00 && t.sp == 0xFD && t.pc == 0x8001 &&
        t.flags.pack == 0x27) := by decide

/-- LS2. -/
theorem test_LDX :
    stepGives (placed [(0x8000, 0xA2), (0x8001, 0x00)]
        { dummyStart with x := 0x55 })
      (fun t => t.cond == .ok && t.a == 0x00 && t.x == 0x00 && t.y == 0x00 && t.sp == 0xFD && t.pc == 0x8002 &&
        t.flags.pack == 0x26) := by decide

/-- AM6. -/
theorem test_LDX_zeroPageY :
    stepGives (placed [(0x8000, 0xB6), (0x8001, 0x80), (0x0110, 0x55)]
        { dummyStart with y := 0x90 })
      (fun t => t.cond == .ok && t.a == 0x00 && t.x == 0x55 && t.y == 0x90 && t.sp == 0xFD && t.pc == 0x8002 &&
        t.flags.pack == 0x24) := by decide

/-- LS3. -/
theorem test_LDY :
    stepGives (placed [(0x8000, 0xBC), (0x8001, 0x00), (0x8002, 0x03), (0x0303, 0x7F)]
        { dummyStart with x := 0x03 })
      (fun t => t.cond == .ok && t.a == 0x00 && t.x == 0x03 && t.y == 0x7F && t.sp == 0xFD && t.pc == 0x8003 &&
        t.flags.pack == 0x24) := by decide

/-- LS10. -/
theorem test_STA_mirror :
    stepGives (placed [(0x8000, 0x8D), (0x8001, 0xFF), (0x8002, 0x1F)]
        { dummyStart with a := 0x34 })
      (fun t => t.cond == .ok && t.a == 0x34 && t.x == 0x00 && t.y == 0x00 && t.sp == 0xFD && t.pc == 0x8003 &&
        t.flags.pack == 0x24 && t.peek 0x07FF == some 0x34 && t.peek 0x1FFF == some 0x34) := by decide

/-- LS12. -/
theorem test_STA_stub :
    stepGives (placed [(0x8000, 0x8D), (0x8001, 0x17), (0x8002, 0x40)]
        { dummyStart with a := 0x34 })
      (fun t => t.cond == .ok && t.a == 0x34 && t.x == 0x00 && t.y == 0x00 && t.sp == 0xFD && t.pc == 0x8003 &&
        t.flags.pack == 0x24 && t.peek 0x4017 == some 0x00) := by decide

/-- LS14. -/
theorem test_STX :
    stepGives (placed [(0x8000, 0x96), (0x8001, 0x10)]
        { dummyStart with x := 0x77, y := 0x02 })
      (fun t => t.cond == .ok && t.a == 0x00 && t.x == 0x77 && t.y == 0x02 && t.sp == 0xFD && t.pc == 0x8002 &&
        t.flags.pack == 0x24 && t.peek 0x0012 == some 0x77) := by decide

/-- LS15. -/
theorem test_STY :
    stepGives (placed [(0x8000, 0x94), (0x8001, 0x10)]
        { dummyStart with y := 0x66, x := 0x03 })
      (fun t => t.cond == .ok && t.a == 0x00 && t.x == 0x03 && t.y == 0x66 && t.sp == 0xFD && t.pc == 0x8002 &&
        t.flags.pack == 0x24 && t.peek 0x0013 == some 0x66) := by decide

/-- LS17. -/
theorem test_TAX :
    stepGives (placed [(0x8000, 0xAA)]
        { dummyStart with a := 0x80 })
      (fun t => t.cond == .ok && t.a == 0x80 && t.x == 0x80 && t.y == 0x00 && t.sp == 0xFD && t.pc == 0x8001 &&
        t.flags.pack == 0xA4) := by decide

/-- LS18. -/
theorem test_TAY :
    stepGives (placed [(0x8000, 0xA8)]
        { dummyStart with a := 0x00, y := 0x05 })
      (fun t => t.cond == .ok && t.a == 0x00 && t.x == 0x00 && t.y == 0x00 && t.sp == 0xFD && t.pc == 0x8001 &&
        t.flags.pack == 0x26) := by decide

/-- LS19. -/
theorem test_TXA :
    stepGives (placed [(0x8000, 0x8A)]
        { dummyStart with x := 0x7F, a := 0xFF, flags := { Flags.initial with n := true } })
      (fun t => t.cond == .ok && t.a == 0x7F && t.x == 0x7F && t.y == 0x00 && t.sp == 0xFD && t.pc == 0x8001 &&
        t.flags.pack == 0x24) := by decide

/-- LS20. -/
theorem test_TYA :
    stepGives (placed [(0x8000, 0x98)]
        { dummyStart with y := 0x00, a := 0x01 })
      (fun t => t.cond == .ok && t.a == 0x00 && t.x == 0x00 && t.y == 0x00 && t.sp == 0xFD && t.pc == 0x8001 &&
        t.flags.pack == 0x26) := by decide

/-- LS21. -/
theorem test_TSX :
    stepGives (placed [(0x8000, 0xBA)]
        dummyStart)
      (fun t => t.cond == .ok && t.a == 0x00 && t.x == 0xFD && t.y == 0x00 && t.sp == 0xFD && t.pc == 0x8001 &&
        t.flags.pack == 0xA4) := by decide

/-- LS22. -/
theorem test_TXS :
    stepGives (placed [(0x8000, 0x9A)]
        { dummyStart with x := 0x00 })
      (fun t => t.cond == .ok && t.a == 0x00 && t.x == 0x00 && t.y == 0x00 && t.sp == 0x00 && t.pc == 0x8001 &&
        t.flags.pack == 0x24) := by decide

/-- LS23. -/
theorem test_NOP :
    stepGives (placed [(0x8000, 0xEA)]
        dummyStart)
      (fun t => t.cond == .ok && t.a == 0x00 && t.x == 0x00 && t.y == 0x00 && t.sp == 0xFD && t.pc == 0x8001 &&
        t.flags.pack == 0x24) := by decide

/-- BR1. -/
theorem test_BPL :
    stepGives (placed [(0x8000, 0x10), (0x8001, 0x10)]
        { dummyStart with flags := { Flags.initial with n := false } })
      (fun t => t.cond == .ok && t.sp == 0xFD && t.pc == 0x8012) := by decide

/-- BR4. -/
theorem test_BMI :
    stepGives (placed [(0x8000, 0x30), (0x8001, 0x10)]
        { dummyStart with flags := { Flags.initial with n := true } })
      (fun t => t.cond == .ok && t.sp == 0xFD && t.pc == 0x8012) := by decide

/-- BR5. -/
theorem test_BVC :
    stepGives (placed [(0x8000, 0x50), (0x8001, 0x10)]
        { dummyStart with flags := { Flags.initial with v := false } })
      (fun t => t.cond == .ok && t.sp == 0xFD && t.pc == 0x8012) := by decide

/-- BR8. -/
theorem test_BVS :
    stepGives (placed [(0x8000, 0x70), (0x8001, 0x10)]
        { dummyStart with flags := { Flags.initial with v := true } })
      (fun t => t.cond == .ok && t.sp == 0xFD && t.pc == 0x8012) := by decide

/-- BR9. -/
theorem test_BCC :
    stepGives (placed [(0x8000, 0x90), (0x8001, 0x10)]
        { dummyStart with flags := { Flags.initial with c := false } })
      (fun t => t.cond == .ok && t.sp == 0xFD && t.pc == 0x8012) := by decide

/-- BR12. -/
theorem test_BCS :
    stepGives (placed [(0x8000, 0xB0), (0x8001, 0x10)]
        { dummyStart with flags := { Flags.initial with c := true } })
      (fun t => t.cond == .ok && t.sp == 0xFD && t.pc == 0x8012) := by decide

/-- BR19. -/
theorem test_BNE_backward :
    stepGives (placed [(0x8000, 0xD0), (0x8001, 0x80)]
        { dummyStart with flags := { Flags.initial with z := false } })
      (fun t => t.cond == .ok && t.sp == 0xFD && t.pc == 0x7F82) := by decide

/-- BR22. -/
theorem test_BNE_wraps :
    stepGives (placed [(0xFFF0, 0xD0), (0xFFF1, 0x7F)]
        { dummyStart with pc := 0xFFF0, flags := { Flags.initial with z := false } })
      (fun t => t.cond == .ok && t.sp == 0xFD && t.pc == 0x0071) := by decide

/-- BR16. -/
theorem test_BEQ :
    stepGives (placed [(0x8000, 0xF0), (0x8001, 0x10)]
        { dummyStart with flags := { Flags.initial with z := true } })
      (fun t => t.cond == .ok && t.sp == 0xFD && t.pc == 0x8012) := by decide

/-- JP1. -/
theorem test_JMP :
    stepGives (placed [(0x8000, 0x4C), (0x8001, 0x34), (0x8002, 0x12)]
        dummyStart)
      (fun t => t.cond == .ok && t.a == 0x00 && t.x == 0x00 && t.y == 0x00 && t.sp == 0xFD && t.pc == 0x1234 &&
        t.flags.pack == 0x24) := by decide

/-- JP6. -/
theorem test_JSR_stack_wrap :
    stepGives (placed [(0x8000, 0x20), (0x8001, 0x00), (0x8002, 0x90)]
        { dummyStart with sp := 0x00 })
      (fun t => t.cond == .ok && t.a == 0x00 && t.x == 0x00 && t.y == 0x00 && t.sp == 0xFE && t.pc == 0x9000 &&
        t.flags.pack == 0x24 && t.peek 0x0100 == some 0x80 && t.peek 0x01FF == some 0x02) := by decide

/-- JP9. -/
theorem test_RTS_stack_wrap :
    stepGives (placed [(0x8000, 0x60), (0x0100, 0x33), (0x0101, 0x12)]
        { dummyStart with sp := 0xFF })
      (fun t => t.cond == .ok && t.a == 0x00 && t.x == 0x00 && t.y == 0x00 && t.sp == 0x01 && t.pc == 0x1234 &&
        t.flags.pack == 0x24) := by decide

/-- ST2. -/
theorem test_PHP :
    stepGives (placed [(0x8000, 0x08)]
        { dummyStart with flags := { Flags.initial with n := true, v := true, d := true, z := true, c := true, b :=
        true } })
      (fun t => t.cond == .ok && t.a == 0x00 && t.x == 0x00 && t.y == 0x00 && t.sp == 0xFC && t.pc == 0x8001 &&
        t.flags.pack == 0xFF && t.peek 0x01FD == some 0xFF) := by decide

/-- ST3. -/
theorem test_PLP :
    stepGives (placed [(0x8000, 0x28), (0x01FD, 0xFF)]
        { dummyStart with sp := 0xFC })
      (fun t => t.cond == .ok && t.a == 0x00 && t.x == 0x00 && t.y == 0x00 && t.sp == 0xFD && t.pc == 0x8001 &&
        t.flags.pack == 0xEF) := by decide

/-- ST8. -/
theorem test_PLA_wrap :
    stepGives (placed [(0x8000, 0x68), (0x0100, 0x42)]
        { dummyStart with sp := 0xFF })
      (fun t => t.cond == .ok && t.a == 0x42 && t.x == 0x00 && t.y == 0x00 && t.sp == 0x00 && t.pc == 0x8001 &&
        t.flags.pack == 0x24) := by decide

/-- ST9. -/
theorem test_PHA_wrap :
    stepGives (placed [(0x8000, 0x48)]
        { dummyStart with sp := 0x00, a := 0x42 })
      (fun t => t.cond == .ok && t.a == 0x42 && t.x == 0x00 && t.y == 0x00 && t.sp == 0xFF && t.pc == 0x8001 &&
        t.flags.pack == 0x24 && t.peek 0x0100 == some 0x42) := by decide

/-- ST12. -/
theorem test_CLC :
    stepGives (placed [(0x8000, 0x18)]
        { dummyStart with flags := { Flags.initial with c := true } })
      (fun t => t.cond == .ok && t.a == 0x00 && t.x == 0x00 && t.y == 0x00 && t.sp == 0xFD && t.pc == 0x8001 &&
        t.flags.pack == 0x24) := by decide

/-- ST13. -/
theorem test_SEC :
    stepGives (placed [(0x8000, 0x38)]
        dummyStart)
      (fun t => t.cond == .ok && t.a == 0x00 && t.x == 0x00 && t.y == 0x00 && t.sp == 0xFD && t.pc == 0x8001 &&
        t.flags.pack == 0x25) := by decide

/-- ST14. -/
theorem test_CLI :
    stepGives (placed [(0x8000, 0x58)]
        dummyStart)
      (fun t => t.cond == .ok && t.a == 0x00 && t.x == 0x00 && t.y == 0x00 && t.sp == 0xFD && t.pc == 0x8001 &&
        t.flags.pack == 0x20) := by decide

/-- ST15. -/
theorem test_SEI :
    stepGives (placed [(0x8000, 0x78)]
        { dummyStart with flags := { Flags.initial with i := false } })
      (fun t => t.cond == .ok && t.a == 0x00 && t.x == 0x00 && t.y == 0x00 && t.sp == 0xFD && t.pc == 0x8001 &&
        t.flags.pack == 0x24) := by decide

/-- ST16. -/
theorem test_CLV :
    stepGives (placed [(0x8000, 0xB8)]
        { dummyStart with flags := { Flags.initial with v := true } })
      (fun t => t.cond == .ok && t.a == 0x00 && t.x == 0x00 && t.y == 0x00 && t.sp == 0xFD && t.pc == 0x8001 &&
        t.flags.pack == 0x24) := by decide

/-- ST17. -/
theorem test_CLD :
    stepGives (placed [(0x8000, 0xD8)]
        { dummyStart with flags := { Flags.initial with d := true } })
      (fun t => t.cond == .ok && t.a == 0x00 && t.x == 0x00 && t.y == 0x00 && t.sp == 0xFD && t.pc == 0x8001 &&
        t.flags.pack == 0x24) := by decide

/-- ST18. -/
theorem test_SED :
    stepGives (placed [(0x8000, 0xF8)]
        dummyStart)
      (fun t => t.cond == .ok && t.a == 0x00 && t.x == 0x00 && t.y == 0x00 && t.sp == 0xFD && t.pc == 0x8001 &&
        t.flags.pack == 0x2C) := by decide

/-- ST21. -/
theorem test_BRK :
    stepGives (placed [(0x8000, 0x00), (0xFFFE, 0x00), (0xFFFF, 0x90)]
        { dummyStart with flags := { Flags.initial with i := false, n := true } })
      (fun t => t.cond == .ok && t.a == 0x00 && t.x == 0x00 && t.y == 0x00 && t.sp == 0xFA && t.pc == 0x9000 &&
        t.flags.pack == 0xB4 && t.peek 0x01FB == some 0xB0) := by decide

/-- ST25. -/
theorem test_BRK_stack_wrap :
    stepGives (placed [(0x8000, 0x00), (0xFFFE, 0x00), (0xFFFF, 0x90)]
        { dummyStart with sp := 0x01 })
      (fun t => t.cond == .ok && t.a == 0x00 && t.x == 0x00 && t.y == 0x00 && t.sp == 0xFE && t.pc == 0x9000 &&
        t.flags.pack == 0x34 && t.peek 0x0101 == some 0x80 && t.peek 0x0100 == some 0x02 && t.peek 0x01FF == some
        0x34) := by decide

/-- ST24. -/
theorem test_RTI :
    stepGives (placed [(0x8000, 0x40), (0x01FB, 0xFF), (0x01FC, 0x34), (0x01FD, 0x12)]
        { dummyStart with sp := 0xFA })
      (fun t => t.cond == .ok && t.a == 0x00 && t.x == 0x00 && t.y == 0x00 && t.sp == 0xFD && t.pc == 0x1234 &&
        t.flags.pack == 0xEF) := by decide

/-- UN1. -/
theorem test_unimplemented_03 :
    stepGives (placed [(0x8000, 0x03), (0x8001, 0xA9), (0x8002, 0x55)]
        { dummyStart with a := 0x11, x := 0x22, y := 0x33, flags := { Flags.initial with c := true } })
      (fun t => t.cond == .unimplementedOpcode && t.a == 0x11 && t.x == 0x22 && t.y == 0x33 && t.sp == 0xFD && t.pc
        == 0x8001 && t.flags.pack == 0x25) := by decide

/-- UN5. -/
theorem test_unimplemented_82 :
    stepGives (placed [(0x8000, 0x82), (0x8001, 0xA9), (0x8002, 0x55)]
        { dummyStart with a := 0x11, x := 0x22, y := 0x33, flags := { Flags.initial with c := true } })
      (fun t => t.cond == .unimplementedOpcode && t.a == 0x11 && t.x == 0x22 && t.y == 0x33 && t.sp == 0xFD && t.pc
        == 0x8001 && t.flags.pack == 0x25) := by decide

/-- UN10. -/
theorem test_unimplemented_80 :
    stepGives (placed [(0x8000, 0x80), (0x8001, 0xA9), (0x8002, 0x55)]
        { dummyStart with a := 0x11, x := 0x22, y := 0x33, flags := { Flags.initial with c := true } })
      (fun t => t.cond == .unimplementedOpcode && t.a == 0x11 && t.x == 0x22 && t.y == 0x33 && t.sp == 0xFD && t.pc
        == 0x8001 && t.flags.pack == 0x25) := by decide

/-- IW1. -/
theorem test_STA_immediate :
    stepGives (placed [(0x8000, 0x89), (0x8001, 0x55)]
        { dummyStart with a := 0x12, flags := { Flags.initial with n := true } })
      (fun t => t.cond == .invalidWrite && t.a == 0x12 && t.x == 0x00 && t.y == 0x00 && t.sp == 0xFD && t.pc ==
        0x8002 && t.flags.pack == 0xA4 && t.peek 0x8001 == some 0x55) := by decide

/-- MW1. -/
theorem test_STA_rejected :
    stepGives (placed [(0x8000, 0x8D), (0x8001, 0x00), (0x8002, 0x90)]
        { nromStart with a := 0x55 })
      (fun t => t.cond == .mapperWriteRejected && t.a == 0x55 && t.x == 0x00 && t.y == 0x00 && t.pc == 0x8003 &&
        t.flags.pack == 0x24 && t.peek 0x9000 == some 0x00) := by decide

/-- MW4. -/
theorem test_INC_rejected :
    stepGives (placed [(0x8000, 0xEE), (0x8001, 0x00), (0x8002, 0x90), (0x9000, 0x7F)]
        nromStart)
      (fun t => t.cond == .mapperWriteRejected && t.a == 0x00 && t.x == 0x00 && t.y == 0x00 && t.pc == 0x8003 &&
        t.flags.pack == 0xA4 && t.peek 0x9000 == some 0x7F) := by decide

/-! ### A witness for every obligation that has hypotheses -/

theorem witness_EncodeOfDecodeIsTheBytes : decode [0xA9, 0x05, 0xEA] = .ok (.ldaImm 0x05, [0xEA]) := rfl

theorem witness_EveryOpcodeByteHasAnInstruction : Instr.unimpl80.mnemonic = .unimplemented := rfl

theorem witness_PushAndPullOnTheStackPage_sp00 : { State.reset with sp := 0x00 }.sp = 0x00 := rfl

theorem witness_PushAndPullOnTheStackPage_spFF : { State.reset with sp := 0xFF }.sp = 0xFF := rfl

theorem witness_RamIsMirroredEvery2KiB :
    (0x0000 : Addr).toNat ≤ 0x1FFF ∧ (0x1FFF : Addr).toNat ≤ 0x1FFF ∧ (0x1FFF : Addr).toNat % 0x800 = (0x07FF : Addr).toNat % 0x800 := by
  decide

theorem witness_StubsReadZeroAndDropWrites :
    ∀ addr ∈ [(0x2000 : Addr), 0x3FFF, 0x4000, 0x401F], 0x2000 ≤ addr.toNat ∧ addr.toNat ≤ 0x401F := by simp

theorem witness_NromWindowReadsTheProgramBank :
    nromStart.mapper = .nrom ∧ (∀ addr ∈ [(0x8000 : Addr), 0xFFFF], 0x8000 ≤ addr.toNat) ∧
    ∀ addr ∈ [(0x4020 : Addr), 0x7FFF], 0x4020 ≤ addr.toNat ∧ addr.toNat ≤ 0x7FFF := ⟨rfl, by simp, by simp⟩

theorem witness_NromRejectsEveryWrite :
    nromStart.mapper = .nrom ∧ ∀ addr ∈ [(0x4020 : Addr), 0xFFFF], 0x4020 ≤ addr.toNat := ⟨rfl, by simp⟩

theorem witness_DummyMapperIsFlatMemory :
    State.reset.mapper = .dummy ∧ ∀ addr ∈ [(0x4020 : Addr), 0xFFFF], 0x4020 ≤ addr.toNat := ⟨rfl, by simp⟩

theorem witness_WriteLeavesEveryOtherCellAlone_other : ¬ sameCell 0x0801 0x0000 ∧ ¬ sameCell 0x2800 0x2000 := by
  unfold sameCell; decide

theorem witness_WriteLeavesEveryOtherCellAlone_ram : regionOf 0x1FFF = .ram ∧ sameCell 0x07FF 0x1FFF := by
  unfold sameCell; decide

theorem witness_WriteLeavesEveryOtherCellAlone_cartridge :
    regionOf 0x4020 = .cartridge ∧ State.reset.mapper = .dummy ∧ sameCell 0x4020 0x4020 := by
  unfold sameCell; decide

theorem witness_WordsAreLittleEndian :
    State.reset.peek 0xFFFF = some 0 ∧ State.reset.peek (0xFFFF + 1) = some 0 := by decide

theorem witness_ImmediateZeroPageAbsoluteAddresses :
    (placed [(0x8001, 0x5A)] { dummyStart with pc := 0x8001 }).peek 0x8001 = some 0x5A := by decide

theorem witness_OperandIsTheByteAtTheEffectiveAddress_immediate :
    (placed [(0x8001, 0x5A)] { dummyStart with pc := 0x8001 }).peek 0x8001 = some 0x5A := by decide

theorem witness_OperandIsTheByteAtTheEffectiveAddress_memory :
    (∀ b : Byte, Operand.absolute 0x2002 ≠ .immediate b) ∧ dummyStart.peek (target (.absolute 0x2002) dummyStart) = some 0 ∧
    (target (.absolute 0x2000) dummyStart).toNat ∈ Set.Icc 0x2000 0x401F ∧
    (target (.absolute 0x401F) dummyStart).toNat ∈ Set.Icc 0x2000 0x401F :=
  ⟨nofun, by decide, by decide, by decide⟩

theorem witness_WriteThroughImmediateIsInvalid :
    (∀ b : Byte, Operand.zeroPage 0x10 ≠ .immediate b) ∧ (∀ b : Byte, Instr.ldaImm 0x05 ≠ .staImm b) ∧
    (∃ t, exec (.ldaImm 0x05) State.reset = .next t) ∧ State.reset.cond ≠ .invalidWrite :=
  ⟨nofun, nofun, ⟨_, rfl⟩, by decide⟩

theorem witness_JumpsLoadPc :
    (placed [(0x0200, 0x34), (0x0201, 0x12)] dummyStart).peek 0x0200 = some 0x34 ∧
    (placed [(0x0200, 0x34), (0x0201, 0x12)] dummyStart).peek (0x0200 + 1) = some 0x12 := by decide

theorem witness_NonStoringInstructionsKeepMemory :
    (Instr.ldaImm 0x05).mnemonic ∉ [.sta, .stx, .sty, .asl, .rol, .lsr, .ror, .inc, .dec, .pha, .php, .jsr, .brk] ∧
    Instr.aslAcc ∈ accumulatorForms ∧ (∃ b, Instr.staImm 0x55 = .staImm b) ∧
    (∃ t, exec (.ldaImm 0x05) State.reset = .next t) ∧ (∃ t, exec .aslAcc State.reset = .next t) ∧
    ∃ t, exec (.staImm 0x55) State.reset = .next t :=
  ⟨by decide, by decide, ⟨_, rfl⟩, ⟨_, rfl⟩, ⟨_, rfl⟩, ⟨_, rfl⟩⟩

theorem witness_StoresChangeOnlyTheirOwnCell :
    ¬ sameCell 0x0011 (target (.zeroPage 0x10) dummyStart) ∧ (Instr.staZp 0x10).mnemonic ∈ [.sta, .stx, .sty] := by
  unfold sameCell; decide

theorem witness_PushesChangeOnlyTheirStackCells :
    (∃ t, exec .pha State.reset = .next t) ∧ (∃ t, exec .php State.reset = .next t) ∧
    (∃ t, exec (.jsr 0x9000) State.reset = .next t) ∧ (∃ t, exec .brk State.reset = .next t) ∧
    ¬ sameCell 0x0000 (stackAddr State.reset.sp) ∧ ¬ sameCell 0x0000 (stackAddr (State.reset.sp - 1)) ∧
    ¬ sameCell 0x0000 (stackAddr (State.reset.sp - 2)) := by
  refine ⟨⟨_, rfl⟩, ⟨_, rfl⟩, ⟨_, rfl⟩, ⟨_, rfl⟩, ?_⟩
  unfold sameCell; decide

theorem witness_OnlyTheNamedInstructionsWriteARegister :
    (∃ t, exec .nop State.reset = .next t) ∧ Instr.nop ∉ accumulatorForms ∧
    Instr.nop.mnemonic ∉ [.lda, .ora, .and, .eor, .adc, .sbc, .txa, .tya, .pla, .ldx, .tax, .tsx, .inx, .dex, .ldy, .tay, .iny,
      .dey, .txs, .pha, .php, .plp, .jsr, .rts, .brk, .rti] :=
  ⟨⟨_, rfl⟩, by decide, by decide⟩

theorem witness_OnlyTheNamedInstructionsWriteAFlag :
    (∃ t, exec (.staZp 0x10) State.reset = .next t) ∧
    (Instr.staZp 0x10).mnemonic ∉ [.lda, .ldx, .ldy, .ora, .and, .eor, .adc, .sbc, .cmp, .cpx, .cpy, .bit, .asl, .rol, .lsr, .ror,
      .inc, .dec, .inx, .iny, .dex, .dey, .tax, .tay, .txa, .tya, .tsx, .pla, .plp, .rti, .brk, .clv, .clc, .sec, .cli, .sei,
      .cld, .sed] ∧
    (∃ t, exec .brk State.reset = .next t) ∧ Instr.brk.mnemonic = .brk ∧
    (∃ t, exec .plp State.reset = .next t) ∧ Instr.plp.mnemonic ∈ [.plp, .rti] :=
  ⟨⟨_, rfl⟩, by decide, ⟨_, rfl⟩, rfl, ⟨_, rfl⟩, by decide⟩

/-- LDA $1234 at 0x8000. -/
def ldaAt8000 : State := placed [(0x8000, 0xAD), (0x8001, 0x34), (0x8002, 0x12)] dummyStart

theorem witness_PcAdvancesByTheLength :
    (∃ t, exec (.ldaAbs 0x1234) State.reset = .next t) ∧
    (Instr.ldaAbs 0x1234).mnemonic ∉ [.bpl, .bmi, .bvc, .bvs, .bcc, .bcs, .bne, .beq, .jmp, .jsr, .rts, .brk, .rti] ∧
    ldaAt8000.engine = .running ∧ (fetch (ldaAt8000.report .ok)).1 = .ldaAbs 0x1234 ∧ ∃ t, step ldaAt8000 = .next t :=
  ⟨⟨_, rfl⟩, by decide, rfl, by decide, ⟨_, rfl⟩⟩

theorem witness_ConditionsAreReportedExactlyWhenTheRulesSay :
    ((∃ t, exec .unimpl02 State.reset = .next t) ∧ Instr.unimpl02.mnemonic = .unimplemented) ∧
    (∃ t, exec (.staImm 0x55) State.reset = .next t) ∧
    ((∃ t, exec (.staAbs 0x9000) nromStart = .next t) ∧ (.staAbs 0x9000, .absolute 0x9000) ∈ storingForms 0x10 0x9000) ∧
    ((∃ t, exec .nop State.reset = .next t) ∧
      Instr.nop.mnemonic ∉ [.unimplemented, .sta, .stx, .sty, .asl, .rol, .lsr, .ror, .inc, .dec]) ∧
    (∃ t, exec .rorAcc State.reset = .next t) ∧ Instr.rorAcc ∈ accumulatorForms :=
  ⟨⟨⟨_, rfl⟩, rfl⟩, ⟨_, rfl⟩, ⟨⟨_, rfl⟩, by decide⟩, ⟨⟨_, rfl⟩, by decide⟩, ⟨_, rfl⟩, by decide⟩

theorem witness_StepRunsTheDecodedInstruction :
    ldaAt8000.engine = .running ∧ decode [0xAD, 0x34, 0x12] = .ok (.ldaAbs 0x1234, []) ∧
    (readBytes 3 ldaAt8000.pc { ldaAt8000 with cond := .ok }).1 = [0xAD, 0x34, 0x12] ∧
    ∀ k : Fin 3, ldaAt8000.peek (ldaAt8000.pc + BitVec.ofNat 16 k) = some [(0xAD : Byte), 0x34, 0x12][k] :=
  ⟨rfl, rfl, by decide, by decide⟩

theorem witness_StepAlwaysCompletesWhileRunning :
    State.reset.engine = .running ∧ { State.reset with engine := .constructed }.engine ≠ .running := by decide

theorem witness_StepKeepsTheInvariant : State.reset.Inv ∧ ∃ t, step State.reset = .next t :=
  ⟨⟨by decide, by decide⟩, ⟨_, rfl⟩⟩

theorem witness_ParametersAndCartridgeNeverChange :
    (∃ t, step State.reset = .next t) ∧ State.reset.mapper = .dummy ∧ (∃ t, step nromStart = .next t) ∧
    nromStart.mapper = .nrom ∧ ∀ q ∈ [(0x4020 : Addr), 0xFFFF], 0x4020 ≤ q.toNat :=
  ⟨⟨_, rfl⟩, rfl, ⟨_, rfl⟩, rfl, by simp⟩

theorem witness_ReachableStatesMeetTheInvariant : ∃ s, Reachable Params.default s := ⟨_, .start _ rfl⟩

theorem witness_PowerOnSetsTheStatedValues :
    ({ nromParams with prgLength := 0x2000 }.mapper = .nrom ∧ 0x2000 ≠ 0x4000 ∧ 0x2000 ≠ 0x8000) ∧
    nromParams.wf = true ∧ Params.default.wf = true := by decide

theorem witness_ResetLoadsPcAndFlagsOnly :
    (placed [(0xFFFC, 0x34), (0xFFFD, 0x12)] State.reset).peek 0xFFFC = some 0x34 ∧
    (placed [(0xFFFC, 0x34), (0xFFFD, 0x12)] State.reset).peek 0xFFFD = some 0x12 ∧ nromStart.mapper = .nrom ∧
    State.reset.mapper = .dummy := by decide

theorem witness_StepNIsNSequentialSteps : State.reset.engine = .running := rfl

theorem witness_BreakDecimalInterruptFlagsAreInert : (Instr.adcImm 0x19).mnemonic ∉ [.php, .brk] := by decide

end Sys2Proof.Machine
end

section
/-! PROOFS. What an instruction can do to the part of the state that is not a register: nothing, bus writes, or a report of
a condition other than a rejected write. An invariant of `step` about memory, the parameters, the engine or `cond` is an
induction over `Effect`, one case per constructor. -/

namespace Sys2Proof.Machine

/-! ### The state outside the registers -/

/-- The state with A, X, Y, SP, PC, the flags and the count of free reads blanked: what is left changes only by a bus write
or by a report. -/
def State.blankRegisters (s : State) : State :=
  { s with a := 0, x := 0, y := 0, sp := 0, pc := 0, flags := Flags.initial, freeReads := 0 }

theorem blankRegisters_eq_iff (s t : State) :
    t.blankRegisters = s.blankRegisters ↔
      t.ram = s.ram ∧ t.dram = s.dram ∧ t.engine = s.engine ∧ t.cond = s.cond ∧ t.mapper = s.mapper ∧ t.prg = s.prg ∧
        t.prgExtended = s.prgExtended ∧ t.adcCarryIn = s.adcCarryIn := by
  simp [State.blankRegisters]

@[simp] theorem setA_blankRegisters (s : State) (v : Byte) : (s.setA v).blankRegisters = s.blankRegisters := rfl
@[simp] theorem setX_blankRegisters (s : State) (v : Byte) : (s.setX v).blankRegisters = s.blankRegisters := rfl
@[simp] theorem setY_blankRegisters (s : State) (v : Byte) : (s.setY v).blankRegisters = s.blankRegisters := rfl
@[simp] theorem setSP_blankRegisters (s : State) (v : Byte) : (s.setSP v).blankRegisters = s.blankRegisters := rfl
@[simp] theorem setPC_blankRegisters (s : State) (w : Addr) : (s.setPC w).blankRegisters = s.blankRegisters := rfl
@[simp] theorem setFlags_blankRegisters (s : State) (f : Flags) : (s.setFlags f).blankRegisters = s.blankRegisters := rfl

@[simp] theorem memRead_blankRegisters (p : Addr) (s : State) :
    (memRead p s).2.blankRegisters = s.blankRegisters := by
  rw [memRead_state]; rfl

@[simp] theorem readWord_blankRegisters (p : Addr) (s : State) :
    (readWord p s).2.blankRegisters = s.blankRegisters := by
  rw [readWord_state]; rfl

@[simp] theorem effectiveAddress_blankRegisters (o : Operand) (s : State) :
    (effectiveAddress o s).2.blankRegisters = s.blankRegisters := by
  rw [effectiveAddress_state]; rfl

@[simp] theorem readOperand_blankRegisters (o : Operand) (s : State) :
    (readOperand o s).2.blankRegisters = s.blankRegisters := by
  rw [readOperand_state]; rfl

@[simp] theorem absoluteIndirect_blankRegisters (w : Addr) (s : State) :
    (absoluteIndirect w s).2.blankRegisters = s.blankRegisters :=
  readWord_blankRegisters w (s.advancePC 2)

@[simp] theorem branchIf_blankRegisters (taken : Bool) (off : Byte) (s : State) :
    (branchIf taken off s).blankRegisters = s.blankRegisters := by
  rw [branchIf_eq]; rfl

@[simp] theorem fetch_blankRegisters (s : State) : (fetch s).2.blankRegisters = s.blankRegisters := by
  rw [fetch_state]; rfl

@[simp] theorem pull_blankRegisters (s : State) : (pull s).2.blankRegisters = s.blankRegisters := by
  rw [pull_eq]; rfl

@[simp] theorem pullWord_blankRegisters (s : State) : (pullWord s).2.blankRegisters = s.blankRegisters := by
  rw [pullWord_eq]; rfl

@[simp] theorem pullFlags_blankRegisters (s : State) : (pullFlags s).blankRegisters = s.blankRegisters := by
  rw [pullFlags_eq]; rfl

@[simp] theorem returnFromVector_blankRegisters (s : State) :
    (returnFromVector s).blankRegisters = s.blankRegisters := by
  simp [returnFromVector]

@[simp] theorem oraOperand_blankRegisters (o : Operand) (s : State) :
    (oraOperand o s).blankRegisters = s.blankRegisters := by
  simp [oraOperand, loadA]

@[simp] theorem andOperand_blankRegisters (o : Operand) (s : State) :
    (andOperand o s).blankRegisters = s.blankRegisters := by
  simp [andOperand, loadA]

@[simp] theorem eorOperand_blankRegisters (o : Operand) (s : State) :
    (eorOperand o s).blankRegisters = s.blankRegisters := by
  simp [eorOperand, loadA]

@[simp] theorem adcOperand_blankRegisters (o : Operand) (s : State) :
    (adcOperand o s).blankRegisters = s.blankRegisters := by
  simp [adcOperand, loadSum]

@[simp] theorem ldaOperand_blankRegisters (o : Operand) (s : State) :
    (ldaOperand o s).blankRegisters = s.blankRegisters := by
  simp [ldaOperand, loadA]

@[simp] theorem cmpOperand_blankRegisters (o : Operand) (s : State) :
    (cmpOperand o s).blankRegisters = s.blankRegisters := by
  simp [cmpOperand]

@[simp] theorem sbcOperand_blankRegisters (o : Operand) (s : State) :
    (sbcOperand o s).blankRegisters = s.blankRegisters := by
  simp [sbcOperand, loadSum]

@[simp] theorem ldxOperand_blankRegisters (o : Operand) (s : State) :
    (ldxOperand o s).blankRegisters = s.blankRegisters := by
  simp [ldxOperand, loadX]

@[simp] theorem ldyOperand_blankRegisters (o : Operand) (s : State) :
    (ldyOperand o s).blankRegisters = s.blankRegisters := by
  simp [ldyOperand, loadY]

@[simp] theorem bitOperand_blankRegisters (o : Operand) (s : State) :
    (bitOperand o s).blankRegisters = s.blankRegisters := by
  simp [bitOperand]

@[simp] theorem cpxOperand_blankRegisters (o : Operand) (s : State) :
    (cpxOperand o s).blankRegisters = s.blankRegisters := by
  simp [cpxOperand]

@[simp] theorem cpyOperand_blankRegisters (o : Operand) (s : State) :
    (cpyOperand o s).blankRegisters = s.blankRegisters := by
  simp [cpyOperand]

/-! ### The effect of an instruction -/

/-- The states an instruction can lead to from `s`: registers change freely, everything else by bus writes and by the
reports of R202 and R203 alone (the report of R204 is part of the bus write). -/
inductive Effect (s : State) : State → Prop where
  | refl : Effect s s
  /-- Only registers changed. -/
  | registers {t u : State} (h : Effect s t) (hu : u.blankRegisters = t.blankRegisters) : Effect s u
  /-- One bus write (R31). -/
  | write {t : State} (h : Effect s t) (p : Addr) (v : Byte) : Effect s (memWrite p v t)
  /-- A report of a condition that is no rejected write (R202, R203). -/
  | report {t : State} (h : Effect s t) (c : Condition) (hc : c ≠ .mapperWriteRejected) : Effect s (t.report c)

theorem Effect.of_registers {s t : State} (h : t.blankRegisters = s.blankRegisters) : Effect s t := refl.registers h

/-- What starts from a state that differs in registers only is an effect from the first state too. -/
theorem Effect.after_registers {s s' t : State} (hs : s'.blankRegisters = s.blankRegisters) (h : Effect s' t) :
    Effect s t := by
  induction h with
  | refl => exact .of_registers hs
  | registers _ hu ih => exact ih.registers hu
  | write _ p v ih => exact ih.write p v
  | report _ c hc ih => exact ih.report c hc

theorem storeOperand_effect (o : Operand) (v : Byte) (s : State) : Effect s (storeOperand o v s) := by
  have hea : Effect s (effectiveAddress o s).2 := .of_registers (effectiveAddress_blankRegisters o s)
  cases o with
  | immediate _ => exact hea.report .invalidWrite nofun
  | _ => exact hea.write _ v

theorem modifyOperand_effect (o : Operand) (f : Byte → Flags → Byte × Flags) (s : State) :
    Effect s (modifyOperand o f s) := by
  unfold modifyOperand
  exact (Effect.of_registers (by simp)).write _ _

/-- A push is a bus write at the stack address; SP is a register (R12). -/
theorem Effect.push {s t : State} (h : Effect s t) (v : Byte) : Effect s (push v t) :=
  (h.write (stackAddr t.sp) v).registers (setSP_blankRegisters _ _)

theorem pushWord_effect (w : Addr) (s : State) : Effect s (pushWord w s) :=
  (Effect.refl.push (hiByte w)).push (loByte w)

/-- The vectored entry is three pushes; B, I and PC are registers, and reading the vector writes nothing (R208). -/
theorem enterVector_effect (ret vector : Addr) (s : State) : Effect s (enterVector ret vector s) := by
  have hret : Effect s ((pushWord ret s).setFlags ((pushWord ret s).flags.setB true)) :=
    (pushWord_effect ret s).registers (setFlags_blankRegisters _ _)
  exact (hret.push ((pushWord ret s).flags.setB true).pack).registers (by simp [enterVector])

/-- Every instruction answers a next state, reached by register changes, bus writes and the reports of R202 and R203. -/
theorem exec_effect (i : Instr) (s : State) : ∃ t, exec i s = .next t ∧ Effect s t := by
  cases i with
  | oraInx _ | oraZp _ | oraImm _ | oraAbs _ | oraIny _ | oraZpx _ | oraAby _ | oraAbx _ =>
    exact ⟨_, rfl, .of_registers (oraOperand_blankRegisters _ s)⟩
  | andInx _ | andZp _ | andImm _ | andAbs _ | andIny _ | andZpx _ | andAby _ | andAbx _ =>
    exact ⟨_, rfl, .of_registers (andOperand_blankRegisters _ s)⟩
  | eorInx _ | eorZp _ | eorImm _ | eorAbs _ | eorIny _ | eorZpx _ | eorAby _ | eorAbx _ =>
    exact ⟨_, rfl, .of_registers (eorOperand_blankRegisters _ s)⟩
  | adcInx _ | adcZp _ | adcImm _ | adcAbs _ | adcIny _ | adcZpx _ | adcAby _ | adcAbx _ =>
    exact ⟨_, rfl, .of_registers (adcOperand_blankRegisters _ s)⟩
  | ldaInx _ | ldaZp _ | ldaImm _ | ldaAbs _ | ldaIny _ | ldaZpx _ | ldaAby _ | ldaAbx _ =>
    exact ⟨_, rfl, .of_registers (ldaOperand_blankRegisters _ s)⟩
  | cmpInx _ | cmpZp _ | cmpImm _ | cmpAbs _ | cmpIny _ | cmpZpx _ | cmpAby _ | cmpAbx _ =>
    exact ⟨_, rfl, .of_registers (cmpOperand_blankRegisters _ s)⟩
  | sbcInx _ | sbcZp _ | sbcImm _ | sbcAbs _ | sbcIny _ | sbcZpx _ | sbcAby _ | sbcAbx _ =>
    exact ⟨_, rfl, .of_registers (sbcOperand_blankRegisters _ s)⟩
  | ldxImm _ | ldxZp _ | ldxAbs _ | ldxZpy _ | ldxAby _ =>
    exact ⟨_, rfl, .of_registers (ldxOperand_blankRegisters _ s)⟩
  | ldyImm _ | ldyZp _ | ldyAbs _ | ldyZpx _ | ldyAbx _ =>
    exact ⟨_, rfl, .of_registers (ldyOperand_blankRegisters _ s)⟩
  | bitZp _ | bitAbs _ =>
    exact ⟨_, rfl, .of_registers (bitOperand_blankRegisters _ s)⟩
  | cpxImm _ | cpxZp _ | cpxAbs _ =>
    exact ⟨_, rfl, .of_registers (cpxOperand_blankRegisters _ s)⟩
  | cpyImm _ | cpyZp _ | cpyAbs _ =>
    exact ⟨_, rfl, .of_registers (cpyOperand_blankRegisters _ s)⟩
  | bpl _ | bmi _ | bvc _ | bvs _ | bcc _ | bcs _ | bne _ | beq _ =>
    exact ⟨_, rfl, .of_registers (branchIf_blankRegisters _ _ s)⟩
  | jmpAbs _ | jmpInd _ | rts =>
    exact ⟨_, rfl, .of_registers (by simp)⟩
  | rti =>
    exact ⟨_, rfl, .of_registers (returnFromVector_blankRegisters s)⟩
  | plp =>
    exact ⟨_, rfl, .of_registers (pullFlags_blankRegisters s)⟩
  | pla =>
    exact ⟨_, rfl, .of_registers (by simp [loadA])⟩
  | aslAcc | rolAcc | lsrAcc | rorAcc | txa | txs | tax | tsx | dex | nop | dey | tay | iny | inx | tya | clc
    | sec | cli | sei | clv | cld | sed =>
    exact ⟨_, rfl, .of_registers rfl⟩
  | staInx _ | staZp _ | staImm _ | staAbs _ | staIny _ | staZpx _ | staAby _ | staAbx _ | stxZp _ | stxAbs _
    | stxZpy _ | styZp _ | styAbs _ | styZpx _ =>
    exact ⟨_, rfl, storeOperand_effect _ _ s⟩
  | aslZp _ | aslAbs _ | aslZpx _ | aslAbx _ | rolZp _ | rolAbs _ | rolZpx _ | rolAbx _ | lsrZp _ | lsrAbs _
    | lsrZpx _ | lsrAbx _ | rorZp _ | rorAbs _ | rorZpx _ | rorAbx _ | decZp _ | decAbs _ | decZpx _ | decAbx _
    | incZp _ | incAbs _ | incZpx _ | incAbx _ =>
    exact ⟨_, rfl, modifyOperand_effect _ _ s⟩
  | pha | php =>
    exact ⟨_, rfl, Effect.refl.push _⟩
  | jsr _ =>
    exact ⟨_, rfl, (pushWord_effect _ s).registers (setPC_blankRegisters _ _)⟩
  | brk =>
    exact ⟨_, rfl, enterVector_effect _ _ s⟩
  -- The 104 unimplemented opcode bytes (R203).
  | _ => exact ⟨_, rfl, Effect.refl.report .unimplementedOpcode nofun⟩

/-- The effect of a step starts with `cond` OK (R201): the fetch writes registers only. -/
theorem step_effect {s t : State} (h : step s = .next t) : Effect (s.report .ok) t := by
  by_cases hs : s.engine = .running
  · rw [step_running hs] at h
    obtain ⟨u, hu, heff⟩ := exec_effect (fetch (s.report .ok)).1 (fetch (s.report .ok)).2
    obtain rfl : u = t := by simpa [hu] using h
    exact heff.after_registers (fetch_blankRegisters _)
  · simp [step_notRunning hs] at h

/-! ### What every effect leaves alone -/

theorem Effect.sameParameters {s t : State} (h : Effect s t) : s.sameParameters t := by
  induction h with
  | refl => exact ⟨rfl, rfl, rfl, rfl⟩
  | registers _ hu ih => simpa [State.sameParameters, (blankRegisters_eq_iff _ _).mp hu] using ih
  | write _ p v ih => simpa [State.sameParameters] using ih
  | report _ c _ ih => exact ih

theorem Effect.mapper_eq {s t : State} (h : Effect s t) : t.mapper = s.mapper := h.sameParameters.1

/-- The NROM-like mapper lets no write through to mapper memory (R39). -/
theorem memWrite_dram_of_nrom (p : Addr) (v : Byte) {s : State} (hm : s.mapper = .nrom) :
    (memWrite p v s).dram = s.dram := by
  rcases memWrite_cases p v s with ⟨-, h⟩ | ⟨-, h⟩ | ⟨-, -, h⟩ | ⟨-, hd, -⟩
  · simp [h]
  · rw [h]
  · simp [h]
  · simp [hm] at hd

/-- The dummy mapper rejects no write (R41). -/
theorem memWrite_cond_of_dummy (p : Addr) (v : Byte) {s : State} (hm : s.mapper = .dummy) :
    (memWrite p v s).cond = s.cond := by
  rcases memWrite_cases p v s with ⟨-, h⟩ | ⟨-, h⟩ | ⟨-, hn, -⟩ | ⟨-, -, h⟩
  · simp [h]
  · rw [h]
  · simp [hm] at hn
  · simp [h]

theorem Effect.dram_of_nrom {s t : State} (h : Effect s t) (hm : s.mapper = .nrom) : t.dram = s.dram := by
  induction h with
  | refl => rfl
  | registers _ hu ih =>
    obtain ⟨-, hdram, -⟩ := (blankRegisters_eq_iff _ _).mp hu
    exact hdram.trans ih
  | write ht p v ih => rwa [memWrite_dram_of_nrom p v (ht.mapper_eq.trans hm)]
  | report _ _ _ ih => exact ih

theorem Effect.cond_of_dummy {s t : State} (h : Effect s t) (hm : s.mapper = .dummy)
    (hc : s.cond ≠ .mapperWriteRejected) : t.cond ≠ .mapperWriteRejected := by
  induction h with
  | refl => exact hc
  | registers _ hu ih =>
    obtain ⟨-, -, -, hcond, -⟩ := (blankRegisters_eq_iff _ _).mp hu
    rwa [hcond]
  | write ht p v ih => rwa [memWrite_cond_of_dummy p v (ht.mapper_eq.trans hm)]
  | report _ _ hne => exact hne

/-- What the NROM-like mapper answers depends on the parameters of the run alone (R38). -/
theorem peek_cartridge_of_nrom {s t : State} {q : Addr} (hp : s.sameParameters t) (hm : s.mapper = .nrom)
    (hq : 0x4020 ≤ q.toNat) : t.peek q = s.peek q := by
  obtain ⟨hmap, hprg, hext, -⟩ := hp
  simp [peek_cartridge _ hq, peekPRG, hmap, hm, hprg, hext]

/-- Settles O53: a step is an `Effect` of the state with `cond` OK, and each clause is an invariant of effects. -/
theorem parametersAndCartridgeNeverChange : Obligations.ParametersAndCartridgeNeverChange := by
  intro s t hstep
  have heff : Effect (s.report .ok) t := step_effect hstep
  have hp : s.sameParameters t := heff.sameParameters
  exact ⟨hp, fun hm => ⟨heff.dram_of_nrom hm, fun _ hq => peek_cartridge_of_nrom hp hm hq⟩,
    fun hm => heff.cond_of_dummy hm nofun⟩

end Sys2Proof.Machine
end

section
/-! PROOFS. That a Running engine always completes its step, and that the arrays stay well formed: invariants of `Effect`. -/

namespace Sys2Proof.Machine

/-! ### The engine never stops (R20, R205) -/

theorem Effect.engine_eq {s t : State} (h : Effect s t) : t.engine = s.engine := by
  induction h with
  | refl => rfl
  | registers _ hu ih =>
    obtain ⟨-, -, hengine, -⟩ := (blankRegisters_eq_iff _ _).mp hu
    exact hengine.trans ih
  | write _ p v ih => exact (memWrite_engine p v _).trans ih
  | report _ _ _ ih => exact ih

/-- Settles O51: every instruction answers a next state by an `Effect`, and no effect writes the engine state. -/
theorem stepAlwaysCompletesWhileRunning : Obligations.StepAlwaysCompletesWhileRunning := by
  refine ⟨fun i s => ?_, fun s hs => ?_, fun s hs => step_notRunning hs⟩
  · obtain ⟨t, ht, heff⟩ := exec_effect i s
    exact ⟨t, ht, heff.engine_eq⟩
  · obtain ⟨t, ht, heff⟩ := exec_effect (fetch (s.report .ok)).1 (fetch (s.report .ok)).2
    refine ⟨t, (step_running hs).trans ht, heff.engine_eq.trans ?_⟩
    rw [fetch_state]
    exact hs

/-! ### The arrays stay well formed (R18, R19) -/

theorem memoryOk_iff (s : State) :
    s.memoryOk = true ↔
      s.ram.wf = true ∧ Memory.within 0x800 s.ram = true ∧ s.dram.wf = true ∧ Memory.within 0x10000 s.dram = true ∧
        s.prg.wf = true ∧
        (s.mapper = .dummy ∨ Memory.within (if s.prgExtended then 0x8000 else 0x4000) s.prg = true) := by
  simp [State.memoryOk, and_assoc]

/-- A bus write reaches a cell of RAM or of the dummy mapper's memory that the array has (R33, R41). -/
theorem memWrite_memoryOk (p : Addr) (v : Byte) {s : State} (h : s.memoryOk = true) :
    (memWrite p v s).memoryOk = true := by
  rw [memoryOk_iff] at h ⊢
  obtain ⟨hram, hramIn, hdram, hdramIn, hprg⟩ := h
  rcases memWrite_cases p v s with ⟨-, h⟩ | ⟨-, h⟩ | ⟨-, -, h⟩ | ⟨-, -, h⟩ <;> rw [h]
  · exact ⟨Memory.wf_write _ _ v hram, Memory.within_write _ _ _ v (ramIndex_lt p) hramIn, hdram, hdramIn, hprg⟩
  · exact ⟨hram, hramIn, hdram, hdramIn, hprg⟩
  · exact ⟨hram, hramIn, hdram, hdramIn, hprg⟩
  · exact ⟨hram, hramIn, Memory.wf_write _ _ v hdram, Memory.within_write _ _ _ v p.isLt hdramIn, hprg⟩

theorem Effect.memoryOk {s t : State} (h : Effect s t) (hs : s.memoryOk = true) : t.memoryOk = true := by
  induction h with
  | refl => exact hs
  | registers _ hu ih => simpa [memoryOk_iff, (blankRegisters_eq_iff _ _).mp hu] using ih
  | write _ p v ih => exact memWrite_memoryOk p v ih
  | report _ _ _ ih => exact ih

/-- Settles O52: both halves of the invariant are invariants of effects. -/
theorem stepKeepsTheInvariant : Obligations.StepKeepsTheInvariant := by
  rintro s t ⟨hmem, hrun⟩ hstep
  have heff : Effect (s.report .ok) t := step_effect hstep
  exact ⟨heff.memoryOk hmem, by simpa [State.isRunning, heff.engine_eq] using hrun⟩

end Sys2Proof.Machine
end

section
/-! PROOFS. The flag byte, the stack page, and the states of `power_on` and `reset()`. -/

namespace Sys2Proof.Machine

/-! ### The flag byte (R14, R15) -/

/-- Bit k of the flag byte is the k-th entry of C Z I D B 1 V N, and there is no bit after them (R14). -/
theorem Flags.pack_getLsbD (f : Flags) (k : Nat) :
    f.pack.getLsbD k = [f.c, f.z, f.i, f.d, f.b, true, f.v, f.n].getD k false := by
  by_cases hk : k < 8
  · unfold Flags.pack
    iterate 7 rw [BitVec.getLsbD_append]
    interval_cases k <;> simp
  · rw [BitVec.getLsbD_of_ge _ _ (by omega)]
    simp [hk]

theorem Flags.unpack_pack (f : Flags) : Flags.unpack f.pack = f := by
  simp only [Flags.unpack, Flags.pack_getLsbD]
  rfl

/-- Unpack discards bit 5 and Pack sets it: the other seven bits come back (R15). -/
theorem Flags.pack_unpack (b : Byte) : (Flags.unpack b).pack = b ||| 0x20 := by
  apply BitVec.eq_of_getLsbD_eq
  intro k hk
  rw [Flags.pack_getLsbD, BitVec.getLsbD_or]
  interval_cases k <;> simp [Flags.unpack]

/-- Settles O6: bit by bit. -/
theorem packAndUnpackOfTheFlagByte : Obligations.PackAndUnpackOfTheFlagByte :=
  ⟨Flags.pack_getLsbD, fun _ => rfl, Flags.unpack_pack, Flags.pack_unpack⟩

/-! ### The stack page (R12) -/

theorem regionOf_stackAddr (v : Byte) : regionOf (stackAddr v) = .ram := regionOf_ram (stackAddr_le v)

/-- The byte just pushed reads back at the stack cell SP had before the push. -/
theorem push_peek_stackAddr (v : Byte) (s : State) : (push v s).peek (stackAddr s.sp) = some v := by
  rw [peek_ram _ (stackAddr_le s.sp), ramIndex_stackAddr, push_eq, Memory.read_write_same]

/-- A pull answers what the cell after SP reads as. -/
theorem peek_stackAddr_eq_pull (s : State) : s.peek (stackAddr (s.sp + 1)) = some (pull s).1 := by
  rw [peek_ram _ (stackAddr_le _), ramIndex_stackAddr, pull_eq]

/-- Settles O7: the exact states of a push and a pull; at the two wraps the cell is that of 0x0100. -/
theorem pushAndPullOnTheStackPage : Obligations.PushAndPullOnTheStackPage := by
  intro s v
  refine ⟨rfl, regionOf_stackAddr s.sp, push_eq v s, pull_eq s, fun h => ⟨?_, ?_⟩, fun h => ⟨?_, ?_⟩⟩
  · rw [push_eq, h]; rfl
  · have hcell : stackAddr s.sp = 0x0100 := by rw [h]; rfl
    exact hcell ▸ push_peek_stackAddr v s
  · rw [pull_eq, h]; rfl
  · have hcell : stackAddr (s.sp + 1) = 0x0100 := by rw [h]; rfl
    exact hcell ▸ peek_stackAddr_eq_pull s

/-! ### `power_on` and `reset()` (R220 to R222) -/

theorem powerOn_of_wf {P : Params} (h : P.wf = true) : powerOn P = .next (powerOnState P) := by
  obtain ⟨hcart, harr⟩ : P.cartridgeOk = true ∧ P.arraysOk = true := by simpa [Params.wf] using h
  simp [powerOn, hcart, harr]

theorem powerOn_of_cartridge_length {P : Params} (hm : P.mapper = .nrom) (h16 : P.prgLength ≠ 0x4000)
    (h32 : P.prgLength ≠ 0x8000) : powerOn P = .refused .cartridgeLength := by
  have hcart : P.cartridgeOk = false := by simp [Params.cartridgeOk, hm, h16, h32]
  simp [powerOn, hcart]

/-- Settles O56: an accepted `power_on` answers `powerOnState`, whose engine is not yet Running. -/
theorem powerOnSetsTheStatedValues : Obligations.PowerOnSetsTheStatedValues := by
  intro P
  refine ⟨powerOn_of_cartridge_length, fun h => ⟨powerOnState P, powerOn_of_wf h, step_notRunning nofun, ?_⟩⟩
  simp [powerOnState, Flags.initial]

/-- Settles O55: the default parameters are accepted, the Reset vector reads two cells that DUMMY_INIT does not list, and the
empty arrays are well formed. -/
theorem resetStateIsPowerOnThenReset : Obligations.ResetStateIsPowerOnThenReset := by
  have hvector : readWord resetVector ((powerOnState Params.default).setEngine .reset) =
      (0x0000, (powerOnState Params.default).setEngine .reset) := rfl
  have hreset : resetTransaction (powerOnState Params.default) = State.reset := by
    simp only [resetTransaction, hvector]
    rfl
  refine ⟨?_, rfl, rfl⟩
  rw [powerOn_of_wf (P := Params.default) rfl]
  simp [hreset]

end Sys2Proof.Machine
end

section
/-! PROOFS. Which parts of the state each instruction writes, said once for every instruction (`exec_keeps`). What the spec
says of a register, a flag, PC or memory staying as it is, of a list of mnemonics, is then a question about the table
`Mnemonic.writes` alone. -/

namespace Sys2Proof.Machine

/-! ### The parts of the state -/

/-- The parts of the state an instruction's rule can name: the registers (R10 to R12), the seven flags (R13), and the two
memories that can be written (R18, R19). -/
inductive StatePart where
  | a | x | y | sp | pc | n | v | b | d | i | z | c | memory
  deriving DecidableEq

/-- What a part holds. -/
abbrev StatePart.Value : StatePart → Type
  | .a | .x | .y | .sp => Byte
  | .pc => Addr
  | .n | .v | .b | .d | .i | .z | .c => Bool
  | .memory => Memory × Memory

/-- The contents of a part. -/
def State.part (s : State) : (p : StatePart) → p.Value
  | .a => s.a
  | .x => s.x
  | .y => s.y
  | .sp => s.sp
  | .pc => s.pc
  | .n => s.flags.n
  | .v => s.flags.v
  | .b => s.flags.b
  | .d => s.flags.d
  | .i => s.flags.i
  | .z => s.flags.z
  | .c => s.flags.c
  | .memory => (s.ram, s.dram)

/-- Every part that is not listed holds in `t` what it holds in `s`. -/
def Keeps (w : List StatePart) (s t : State) : Prop := ∀ p, p ∉ w → t.part p = s.part p

theorem Keeps.refl (w : List StatePart) (s : State) : Keeps w s s := fun _ _ => rfl

theorem Keeps.trans {w : List StatePart} {s t u : State} (h : Keeps w s t) (h' : Keeps w t u) : Keeps w s u :=
  fun p hp => (h' p hp).trans (h p hp)

theorem Keeps.mono {w w' : List StatePart} {s t : State} (h : Keeps w s t) (hw : w ⊆ w') : Keeps w' s t :=
  fun p hp => h p fun hpw => hp (hw hpw)

/-! ### What each shared operation writes -/

/-- `cond` is no part that a rule lists as written (R201). -/
theorem report_keeps {w : List StatePart} (c : Condition) (s : State) : Keeps w s (s.report c) := by
  intro p _; cases p <;> rfl

theorem setSP_keeps (v : Byte) (s : State) : Keeps [.sp] s (s.setSP v) := by
  intro p hp; cases p <;> simp at hp <;> rfl

theorem setPC_keeps (w : Addr) (s : State) : Keeps [.pc] s (s.setPC w) := by
  intro p hp; cases p <;> simp at hp <;> rfl

theorem loadA_keeps (r : Byte) (s : State) : Keeps [.a, .n, .z] s (loadA r s) := by
  intro p hp; cases p <;> simp at hp <;> rfl

theorem loadX_keeps (r : Byte) (s : State) : Keeps [.x, .n, .z] s (loadX r s) := by
  intro p hp; cases p <;> simp at hp <;> rfl

theorem loadY_keeps (r : Byte) (s : State) : Keeps [.y, .n, .z] s (loadY r s) := by
  intro p hp; cases p <;> simp at hp <;> rfl

theorem loadSum_keeps (q : Sum) (s : State) : Keeps [.a, .n, .z, .v, .c] s (loadSum q s) := by
  intro p hp; cases p <;> simp at hp <;> rfl

theorem setC_keeps (c : Bool) (s : State) : Keeps [.c] s (s.setFlags (s.flags.setC c)) := by
  intro p hp; cases p <;> simp at hp <;> rfl

theorem setV_keeps (v : Bool) (s : State) : Keeps [.v] s (s.setFlags (s.flags.setV v)) := by
  intro p hp; cases p <;> simp at hp <;> rfl

theorem setD_keeps (d : Bool) (s : State) : Keeps [.d] s (s.setFlags (s.flags.setD d)) := by
  intro p hp; cases p <;> simp at hp <;> rfl

theorem setI_keeps (i : Bool) (s : State) : Keeps [.i] s (s.setFlags (s.flags.setI i)) := by
  intro p hp; cases p <;> simp at hp <;> rfl

theorem setB_keeps (b : Bool) (s : State) : Keeps [.b] s (s.setFlags (s.flags.setB b)) := by
  intro p hp; cases p <;> simp at hp <;> rfl

theorem setCompare_keeps (c z n : Bool) (s : State) :
    Keeps [.n, .z, .c] s (s.setFlags (s.flags.setCompare c z n)) := by
  intro p hp; cases p <;> simp at hp <;> rfl

theorem bitFlags_keeps (a m : Byte) (s : State) : Keeps [.n, .z, .v] s (s.setFlags (bitFlags a m s.flags)) := by
  intro p hp; cases p <;> simp at hp <;> rfl

theorem shiftResult_keeps (q : Shifted) (s : State) :
    Keeps [.n, .z, .c] s (s.setFlags (shiftResult q s.flags).2) := by
  intro p hp; cases p <;> simp at hp <;> rfl

theorem countResult_keeps (r : Byte) (s : State) : Keeps [.n, .z] s (s.setFlags (countResult r s.flags).2) := by
  intro p hp; cases p <;> simp at hp <;> rfl

/-- A shift or a rotate of the accumulator (R81, R120 to R123). -/
theorem shiftA_keeps (q : Shifted) (s : State) :
    Keeps [.a, .n, .z, .c] s ((s.setFlags (shiftResult q s.flags).2).setA (shiftResult q s.flags).1) := by
  intro p hp; cases p <;> simp at hp <;> rfl

/-- A read writes no part of the state (R46). -/
theorem memRead_keeps {w : List StatePart} (q : Addr) (s : State) : Keeps w s (memRead q s).2 := by
  intro p _; cases p <;> simp [State.part]

theorem readWord_keeps {w : List StatePart} (q : Addr) (s : State) : Keeps w s (readWord q s).2 :=
  (memRead_keeps q s).trans (memRead_keeps (q + 1) _)

theorem memWrite_keeps (q : Addr) (v : Byte) (s : State) : Keeps [.memory] s (memWrite q v s) := by
  intro p hp; cases p <;> simp at hp <;> simp [State.part]

theorem push_keeps (v : Byte) (s : State) : Keeps [.sp, .memory] s (push v s) :=
  ((memWrite_keeps (stackAddr s.sp) v s).mono (by simp)).trans ((setSP_keeps _ _).mono (by simp))

theorem pushWord_keeps (w : Addr) (s : State) : Keeps [.sp, .memory] s (pushWord w s) :=
  (push_keeps (hiByte w) s).trans (push_keeps (loByte w) _)

theorem pull_keeps (s : State) : Keeps [.sp] s (pull s).2 :=
  (setSP_keeps (s.sp + 1) s).trans (memRead_keeps _ _)

theorem pullWord_keeps (s : State) : Keeps [.sp] s (pullWord s).2 :=
  (pull_keeps s).trans (pull_keeps _)

theorem pullFlags_keeps (s : State) : Keeps [.sp, .n, .v, .b, .d, .i, .z, .c] s (pullFlags s) := by
  rw [pullFlags_eq]; intro p hp; cases p <;> simp at hp <;> rfl

theorem returnFromVector_keeps (s : State) :
    Keeps [.sp, .pc, .n, .v, .b, .d, .i, .z, .c] s (returnFromVector s) :=
  ((pullFlags_keeps s).mono (by simp)).trans
    (((pullWord_keeps _).mono (by simp)).trans ((setPC_keeps _ _).mono (by simp)))

theorem enterVector_keeps (ret vector : Addr) (s : State) :
    Keeps [.sp, .pc, .b, .i, .memory] s (enterVector ret vector s) :=
  ((pushWord_keeps ret s).mono (by simp)).trans <|
    ((setB_keeps true _).mono (by simp)).trans <|
      ((push_keeps _ _).mono (by simp)).trans <|
        ((setI_keeps true _).mono (by simp)).trans <|
          (readWord_keeps vector _).trans ((setPC_keeps _ _).mono (by simp))

/-! ### What the operations on an operand write: relative to the state with PC past the operand bytes (R80) -/

/-- What starts once the operand is read. -/
theorem Keeps.after_readOperand {w : List StatePart} {o : Operand} {s t : State} {n : Nat}
    (h : Keeps w (readOperand o s).2 t) (hn : o.length = n) : Keeps w (s.advancePC n) t := by
  have hread : Keeps w (s.advancePC n) (readOperand o s).2 := by
    rw [readOperand_state, hn]; intro p _; cases p <;> rfl
  exact hread.trans h

theorem storeOperand_immediate_keeps {w : List StatePart} (b v : Byte) (s : State) :
    Keeps w (s.advancePC 1) (storeOperand (.immediate b) v s) := by
  rw [storeOperand_immediate]; intro p _; cases p <;> rfl

theorem storeOperand_keeps {o : Operand} {n : Nat} (v : Byte) (s : State) (hi : ∀ b, o ≠ .immediate b)
    (hn : o.length = n) : Keeps [.memory] (s.advancePC n) (storeOperand o v s) := by
  rw [storeOperand_eq v s hi, hn]
  exact memWrite_keeps _ _ _

/-- A read-modify-write writes memory and the flags that its result writes (R92). -/
theorem modifyOperand_keeps {w : List StatePart} {f : Byte → Flags → Byte × Flags} {o : Operand} {n : Nat} (s : State)
    (hf : ∀ m t, Keeps w t (t.setFlags (f m t.flags).2)) (hn : o.length = n) :
    Keeps (.memory :: w) (s.advancePC n) (modifyOperand o f s) := by
  simp only [modifyOperand, effectiveAddress_state, hn]
  exact (memRead_keeps _ _).trans (((hf _ _).mono (by simp)).trans ((memWrite_keeps _ _ _).mono (by simp)))

theorem pla_keeps (s : State) : Keeps [.sp, .a, .n, .z] s (loadA (pull s).1 (pull s).2) :=
  ((pull_keeps s).mono (by simp)).trans ((loadA_keeps _ _).mono (by simp))

theorem rts_keeps (s : State) : Keeps [.sp, .pc] s ((pullWord s).2.setPC ((pullWord s).1 + 1)) :=
  ((pullWord_keeps s).mono (by simp)).trans ((setPC_keeps _ _).mono (by simp))

theorem branchIf_keeps (taken : Bool) (off : Byte) (s : State) : Keeps [.pc] (s.advancePC 1) (branchIf taken off s) := by
  cases taken with
  | false => exact .refl _ _
  | true => exact setPC_keeps _ _

/-- An instruction of one byte has no operand bytes (R81). -/
theorem Keeps.of_implied {w : List StatePart} {s t : State} (h : Keeps w s t) : Keeps w (s.advancePC 0) t := by
  have hpc : s.advancePC 0 = s := by simp [State.advancePC, State.setPC]
  rwa [hpc]

/-- Of what a control transfer keeps, PC is no part: where the resolver left it does not matter. -/
theorem Keeps.of_advancePC {w : List StatePart} {s t : State} {n : Nat} (h : Keeps w s t) (hpc : .pc ∈ w) :
    Keeps w (s.advancePC n) t := by
  have hback : Keeps w (s.advancePC n) s := by
    intro p hp
    cases p with
    | pc => exact absurd hpc hp
    | _ => rfl
  exact hback.trans h

theorem jsr_keeps (ret w : Addr) (n : Nat) (s : State) :
    Keeps [.sp, .pc, .memory] (s.advancePC n) ((pushWord ret s).setPC w) :=
  .of_advancePC (((pushWord_keeps ret s).mono (by simp)).trans ((setPC_keeps w _).mono (by simp))) (by simp)

end Sys2Proof.Machine

namespace Sys2Proof

/-! ### What each instruction writes -/

/-- The parts that a mnemonic's instructions write, by the rules of 42 to 45 (R10, R12, R17); for the shifts and rotates, in
their memory forms. -/
def Mnemonic.writes : Mnemonic → List Machine.StatePart
  | .ora | .and | .eor | .lda | .txa | .tya => [.a, .n, .z]
  | .adc | .sbc => [.a, .n, .z, .v, .c]
  | .ldx | .tax | .tsx | .inx | .dex => [.x, .n, .z]
  | .ldy | .tay | .iny | .dey => [.y, .n, .z]
  | .cmp | .cpx | .cpy => [.n, .z, .c]
  | .bit => [.n, .z, .v]
  | .sta | .stx | .sty => [.memory]
  | .asl | .rol | .lsr | .ror => [.memory, .n, .z, .c]
  | .inc | .dec => [.memory, .n, .z]
  | .txs => [.sp]
  | .pha | .php => [.sp, .memory]
  | .pla => [.sp, .a, .n, .z]
  | .plp => [.sp, .n, .v, .b, .d, .i, .z, .c]
  | .bpl | .bmi | .bvc | .bvs | .bcc | .bcs | .bne | .beq | .jmp => [.pc]
  | .jsr => [.sp, .pc, .memory]
  | .rts => [.sp, .pc]
  | .brk => [.sp, .pc, .b, .i, .memory]
  | .rti => [.sp, .pc, .n, .v, .b, .d, .i, .z, .c]
  | .clc | .sec => [.c]
  | .cli | .sei => [.i]
  | .clv => [.v]
  | .cld | .sed => [.d]
  | .nop | .unimplemented => []

/-- The parts that an instruction writes: those of its mnemonic, but for the accumulator forms (R81) and the invalid write
0x89 (R115). -/
def Instr.writes : Instr → List Machine.StatePart
  | .aslAcc | .rolAcc | .lsrAcc | .rorAcc => [.a, .n, .z, .c]
  | .staImm _ => []
  | i => i.mnemonic.writes

end Sys2Proof

namespace Sys2Proof.Machine

/-- An instruction writes nothing that its mnemonic does not list, but for A in the accumulator forms. -/
theorem mem_mnemonic_writes_or_accumulator {i : Instr} {p : StatePart} (h : p ∈ i.writes) :
    p ∈ i.mnemonic.writes ∨ p = .a ∧ i ∈ accumulatorForms := by
  unfold Instr.writes at h
  split at h
  case h_5 => simp at h
  case h_6 => exact .inl h
  -- The four accumulator forms.
  all_goals
    simp only [List.mem_cons, List.not_mem_nil, or_false] at h
    obtain rfl | h := h
    · exact .inr ⟨rfl, by simp [accumulatorForms]⟩
    · exact .inl (by simp [Instr.mnemonic, Mnemonic.writes, h])

theorem memory_not_mem_writes {i : Instr} (h : i ∈ accumulatorForms ∨ ∃ b, i = .staImm b) : .memory ∉ i.writes := by
  obtain h | ⟨b, rfl⟩ := h
  · simp only [accumulatorForms, List.mem_cons, List.not_mem_nil, or_false] at h
    obtain rfl | rfl | rfl | rfl := h <;> simp [Instr.writes]
  · simp [Instr.writes]

/-- Every instruction answers a next state, and what it does not write is as it was, with PC past the operand bytes. -/
theorem exec_keeps (i : Instr) (s : State) :
    ∃ t, exec i s = .next t ∧ Keeps i.writes (s.advancePC (i.length - 1)) t := by
  cases i with
  | oraInx _ | oraZp _ | oraImm _ | oraAbs _ | oraIny _ | oraZpx _ | oraAby _ | oraAbx _
  | andInx _ | andZp _ | andImm _ | andAbs _ | andIny _ | andZpx _ | andAby _ | andAbx _
  | eorInx _ | eorZp _ | eorImm _ | eorAbs _ | eorIny _ | eorZpx _ | eorAby _ | eorAbx _
  | ldaInx _ | ldaZp _ | ldaImm _ | ldaAbs _ | ldaIny _ | ldaZpx _ | ldaAby _ | ldaAbx _ =>
    exact ⟨_, rfl, .after_readOperand (loadA_keeps _ _) rfl⟩
  | adcInx _ | adcZp _ | adcImm _ | adcAbs _ | adcIny _ | adcZpx _ | adcAby _ | adcAbx _
  | sbcInx _ | sbcZp _ | sbcImm _ | sbcAbs _ | sbcIny _ | sbcZpx _ | sbcAby _ | sbcAbx _ =>
    exact ⟨_, rfl, .after_readOperand (loadSum_keeps _ _) rfl⟩
  | ldxImm _ | ldxZp _ | ldxAbs _ | ldxZpy _ | ldxAby _ =>
    exact ⟨_, rfl, .after_readOperand (loadX_keeps _ _) rfl⟩
  | ldyImm _ | ldyZp _ | ldyAbs _ | ldyZpx _ | ldyAbx _ =>
    exact ⟨_, rfl, .after_readOperand (loadY_keeps _ _) rfl⟩
  | cmpInx _ | cmpZp _ | cmpImm _ | cmpAbs _ | cmpIny _ | cmpZpx _ | cmpAby _ | cmpAbx _
  | cpxImm _ | cpxZp _ | cpxAbs _ | cpyImm _ | cpyZp _ | cpyAbs _ =>
    exact ⟨_, rfl, .after_readOperand (setCompare_keeps _ _ _ _) rfl⟩
  | bitZp _ | bitAbs _ =>
    exact ⟨_, rfl, .after_readOperand (bitFlags_keeps _ _ _) rfl⟩
  | staImm _ =>
    exact ⟨_, rfl, storeOperand_immediate_keeps _ _ s⟩
  | staInx _ | staZp _ | staAbs _ | staIny _ | staZpx _ | staAby _ | staAbx _ | stxZp _ | stxAbs _ | stxZpy _
  | styZp _ | styAbs _ | styZpx _ =>
    exact ⟨_, rfl, storeOperand_keeps _ s nofun rfl⟩
  | aslZp _ | aslAbs _ | aslZpx _ | aslAbx _ | rolZp _ | rolAbs _ | rolZpx _ | rolAbx _
  | lsrZp _ | lsrAbs _ | lsrZpx _ | lsrAbx _ | rorZp _ | rorAbs _ | rorZpx _ | rorAbx _ =>
    exact ⟨_, rfl, modifyOperand_keeps s (fun _ t => shiftResult_keeps _ t) rfl⟩
  | decZp _ | decAbs _ | decZpx _ | decAbx _ | incZp _ | incAbs _ | incZpx _ | incAbx _ =>
    exact ⟨_, rfl, modifyOperand_keeps s (fun _ t => countResult_keeps _ t) rfl⟩
  | aslAcc | rolAcc | lsrAcc | rorAcc => exact ⟨_, rfl, .of_implied (shiftA_keeps _ s)⟩
  | txa | tya => exact ⟨_, rfl, .of_implied (loadA_keeps _ s)⟩
  | tax | tsx | dex | inx => exact ⟨_, rfl, .of_implied (loadX_keeps _ s)⟩
  | dey | tay | iny => exact ⟨_, rfl, .of_implied (loadY_keeps _ s)⟩
  | txs => exact ⟨_, rfl, .of_implied (setSP_keeps _ s)⟩
  | clc | sec => exact ⟨_, rfl, .of_implied (setC_keeps _ s)⟩
  | cli | sei => exact ⟨_, rfl, .of_implied (setI_keeps _ s)⟩
  | clv => exact ⟨_, rfl, .of_implied (setV_keeps _ s)⟩
  | cld | sed => exact ⟨_, rfl, .of_implied (setD_keeps _ s)⟩
  | pha | php => exact ⟨_, rfl, .of_implied (push_keeps _ s)⟩
  | pla => exact ⟨_, rfl, .of_implied (pla_keeps s)⟩
  | plp => exact ⟨_, rfl, .of_implied (pullFlags_keeps s)⟩
  | bpl _ | bmi _ | bvc _ | bvs _ | bcc _ | bcs _ | bne _ | beq _ => exact ⟨_, rfl, branchIf_keeps _ _ s⟩
  | jmpAbs _ => exact ⟨_, rfl, setPC_keeps _ _⟩
  | jmpInd w => exact ⟨_, rfl, (readWord_keeps w _).trans (setPC_keeps _ _)⟩
  | jsr _ => exact ⟨_, rfl, jsr_keeps _ _ _ s⟩
  | rts => exact ⟨_, rfl, .of_implied (rts_keeps s)⟩
  | brk => exact ⟨_, rfl, .of_implied (enterVector_keeps _ _ s)⟩
  | rti => exact ⟨_, rfl, .of_implied (returnFromVector_keeps s)⟩
  | nop => exact ⟨_, rfl, .of_implied (.refl _ s)⟩
  -- The 104 unimplemented opcode bytes (R203).
  | _ => exact ⟨_, rfl, .of_implied (report_keeps _ s)⟩

theorem eq_of_exec {i : Instr} {s t u : State} (hu : exec i s = .next u) (ht : exec i s = .next t) : u = t :=
  Host.Outcome.next.inj (hu.symm.trans ht)

/-- `exec_keeps`, part by part, of the next state that is given. -/
theorem exec_part {i : Instr} {s t : State} (h : exec i s = .next t) {p : StatePart} (hp : p ∉ i.writes) :
    t.part p = (s.advancePC (i.length - 1)).part p := by
  obtain ⟨u, hu, hkeeps⟩ := exec_keeps i s
  exact eq_of_exec hu h ▸ hkeeps p hp

/-- If every mnemonic that writes a part is listed, an instruction of no listed mnemonic leaves it alone. (A is apart: the
accumulator forms write it beside what their mnemonic writes.) -/
theorem exec_part_of_mnemonic {i : Instr} {s t : State} (h : exec i s = .next t) {p : StatePart} {l : List Mnemonic}
    (hl : ∀ m : Mnemonic, p ∈ m.writes → m ∈ l) (hp : p ≠ .a) (hi : i.mnemonic ∉ l) :
    t.part p = (s.advancePC (i.length - 1)).part p := by
  refine exec_part h fun hw => ?_
  obtain hw | ⟨rfl, -⟩ := mem_mnemonic_writes_or_accumulator hw
  · exact hi (hl _ hw)
  · exact hp rfl

/-! ### The tables of the spec, against the table `Mnemonic.writes` -/

/-- Settles O46: the lists are the mnemonics whose entry holds the register (R10, R12). -/
theorem onlyTheNamedInstructionsWriteARegister : Obligations.OnlyTheNamedInstructionsWriteARegister := by
  intro i s t h
  refine ⟨fun hi hacc => ?_, fun hi => ?_, fun hi => ?_, fun hi => ?_⟩
  · refine exec_part h (p := .a) fun hw => ?_
    obtain hw | ⟨-, hmem⟩ := mem_mnemonic_writes_or_accumulator hw
    · exact hi (by revert hw; cases i.mnemonic <;> decide)
    · exact hacc hmem
  · exact exec_part_of_mnemonic h (p := .x) (by intro m; cases m <;> decide) nofun hi
  · exact exec_part_of_mnemonic h (p := .y) (by intro m; cases m <;> decide) nofun hi
  · exact exec_part_of_mnemonic h (p := .sp) (by intro m; cases m <;> decide) nofun hi

/-! ### B and I after BRK, B after PLP and RTI (R16, R17) -/

theorem enterVector_flags (ret vector : Addr) (s : State) :
    (enterVector ret vector s).flags = (s.flags.setB true).setI true := by
  simp [enterVector, pushWord_eq, push_eq]

theorem pullFlags_b (s : State) : (pullFlags s).flags.b = false := by rw [pullFlags_eq]; rfl

theorem returnFromVector_b (s : State) : (returnFromVector s).flags.b = false := by
  simp only [returnFromVector, pullWord_eq]
  exact pullFlags_b s

theorem exec_brk_flags {i : Instr} {s t : State} (h : exec i s = .next t) (hi : i.mnemonic = .brk) :
    t.flags = (s.flags.setB true).setI true := by
  cases i with
  | brk => exact eq_of_exec rfl h ▸ enterVector_flags _ _ s
  | _ => nomatch hi

theorem exec_plp_rti_b {i : Instr} {s t : State} (h : exec i s = .next t) (hi : i.mnemonic ∈ [.plp, .rti]) :
    t.flags.b = false := by
  cases i with
  | plp => exact eq_of_exec rfl h ▸ pullFlags_b s
  | rti => exact eq_of_exec rfl h ▸ returnFromVector_b s
  | _ => simp [Instr.mnemonic] at hi

/-- Settles O47: the lists are the mnemonics whose entry holds the flag (R17). -/
theorem onlyTheNamedInstructionsWriteAFlag : Obligations.OnlyTheNamedInstructionsWriteAFlag := by
  intro i s t h
  refine ⟨fun hi => ⟨?n, ?z⟩, fun hi => ?v, fun hi => ?b, fun hi => ?brk, fun hi => ?pulled, fun hi => ?d, fun hi => ?i,
    fun hi => ?c⟩
  case n => exact exec_part_of_mnemonic h (p := .n) (by intro m; cases m <;> decide) nofun hi
  case z => exact exec_part_of_mnemonic h (p := .z) (by intro m; cases m <;> decide) nofun hi
  case v => exact exec_part_of_mnemonic h (p := .v) (by intro m; cases m <;> decide) nofun hi
  case b => exact exec_part_of_mnemonic h (p := .b) (by intro m; cases m <;> decide) nofun hi
  case d => exact exec_part_of_mnemonic h (p := .d) (by intro m; cases m <;> decide) nofun hi
  case i => exact exec_part_of_mnemonic h (p := .i) (by intro m; cases m <;> decide) nofun hi
  case c => exact exec_part_of_mnemonic h (p := .c) (by intro m; cases m <;> decide) nofun hi
  case brk => rw [exec_brk_flags h hi]; exact ⟨rfl, rfl⟩
  case pulled => exact exec_plp_rti_b h hi

/-! ### PC (R11) -/

theorem length_pos (i : Instr) : 1 ≤ i.length := by
  unfold Instr.length; split <;> omega

/-- Settles O48: PC is written by control transfers alone; the fetch moved it past the opcode byte before (R224). -/
theorem pcAdvancesByTheLength : Obligations.PcAdvancesByTheLength := by
  intro i s t hi
  have hexec : ∀ {u : State}, exec i u = .next t → t.pc = u.pc + BitVec.ofNat 16 (i.length - 1) := fun h =>
    exec_part_of_mnemonic h (p := .pc) (by intro m; cases m <;> decide) nofun hi
  refine ⟨hexec, fun hrun hfetch hstep => ?_⟩
  rw [step_running hrun, hfetch, fetch_state] at hstep
  have hlen : i.length = 1 + (i.length - 1) := by have := length_pos i; omega
  calc t.pc = s.pc + 1 + BitVec.ofNat 16 (i.length - 1) := hexec hstep
    _ = s.pc + (BitVec.ofNat 16 1 + BitVec.ofNat 16 (i.length - 1)) := BitVec.add_assoc _ _ _
    _ = s.pc + BitVec.ofNat 16 i.length := by rw [← BitVec.ofNat_add, ← hlen]

/-! ### Memory (R18, R19) -/

/-- Settles O43: an instruction whose entry does not hold memory leaves both memories as they are, and no instruction
changes the parameters. -/
theorem nonStoringInstructionsKeepMemory : Obligations.NonStoringInstructionsKeepMemory := by
  intro i s t hi h
  have hmem : (t.ram, t.dram) = (s.ram, s.dram) := by
    obtain hi | hi := hi
    · exact exec_part_of_mnemonic h (p := .memory) (by intro m; cases m <;> decide) nofun hi
    · exact exec_part h (memory_not_mem_writes hi)
  obtain ⟨hram, hdram⟩ := Prod.mk.inj hmem
  obtain ⟨u, hu, heff⟩ := exec_effect i s
  obtain rfl := eq_of_exec hu h
  obtain ⟨hmap, hprg, hext, -⟩ := heff.sameParameters
  exact ⟨hram, hdram, hprg, fun q => peek_congr q hram hdram hmap hprg hext⟩

/-! ### The cells a push writes (R12) -/

theorem setFlags_peek (f : Flags) (s : State) (q : Addr) : (s.setFlags f).peek q = s.peek q := rfl

theorem setPC_peek (w : Addr) (s : State) (q : Addr) : (s.setPC w).peek q = s.peek q := rfl

theorem push_peek_other (v : Byte) {s : State} {q : Addr} (h : ¬ sameCell q (stackAddr s.sp)) :
    (push v s).peek q = s.peek q :=
  memWrite_peek_other v s (fun e => h (.inl e)) fun hq hp e => h (.inr ⟨hq, hp, e⟩)

theorem push_sp (v : Byte) (s : State) : (push v s).sp = s.sp - 1 := by rw [push_eq]

theorem pushWord_sp (w : Addr) (s : State) : (pushWord w s).sp = s.sp - 2 := by rw [pushWord_eq]

theorem pushWord_peek_other (w : Addr) {s : State} {q : Addr} (h : ¬ sameCell q (stackAddr s.sp))
    (h' : ¬ sameCell q (stackAddr (s.sp - 1))) : (pushWord w s).peek q = s.peek q :=
  (push_peek_other (loByte w) (by rwa [push_sp])).trans (push_peek_other (hiByte w) h)

/-- The vectored entry pushes a word and a byte; the flags and PC are no memory, and the vector is read (R208). -/
theorem enterVector_peek_other (ret vector : Addr) {s : State} {q : Addr} (h : ¬ sameCell q (stackAddr s.sp))
    (h' : ¬ sameCell q (stackAddr (s.sp - 1))) (h'' : ¬ sameCell q (stackAddr (s.sp - 2))) :
    (enterVector ret vector s).peek q = s.peek q := by
  simp only [enterVector, setPC_peek, readWord_peek, setFlags_peek]
  rw [push_peek_other _ (by rwa [State.setFlags_sp, pushWord_sp]), setFlags_peek, pushWord_peek_other ret h h']

/-- Settles O45: the cells are those of the pushes. -/
theorem pushesChangeOnlyTheirStackCells : Obligations.PushesChangeOnlyTheirStackCells := by
  intro s t q
  refine ⟨?_, fun w h hq hq' => ?_, fun h hq hq' hq'' => ?_⟩
  · rintro (h | h) hq
    · obtain rfl : push s.a s = t := eq_of_exec rfl h
      exact push_peek_other _ hq
    · obtain rfl : push s.flags.pack s = t := eq_of_exec rfl h
      exact push_peek_other _ hq
  · obtain rfl : (pushWord (s.pc + 1) s).setPC w = t := eq_of_exec rfl h
    rw [setPC_peek]
    exact pushWord_peek_other _ hq hq'
  · obtain rfl : enterVector (s.pc + 1) breakVector s = t := eq_of_exec rfl h
    exact enterVector_peek_other _ _ hq hq' hq''

end Sys2Proof.Machine
end

section
/-! PROOFS. The Bus, region by region: RAM and its images, the stub ranges, the cartridge under each mapper; and the word
read (20_memory.md). What an address reads as (`peek`) is said first; a read and a write follow from it. -/

namespace Sys2Proof.Machine

/-! ### RAM and its images (R33) -/

/-- A write in RAM is seen by every address of RAM with the same index, and by no other. -/
theorem memWrite_peek_ram {p q : Addr} (v : Byte) (s : State) (hp : p.toNat ≤ 0x1FFF) (hq : q.toNat ≤ 0x1FFF) :
    (memWrite p v s).peek q = if ramIndex q = ramIndex p then some v else s.peek q := by
  rw [peek_ram _ hq, peek_ram _ hq, memWrite_ram v s hp, State.setRAM_ram, Memory.read_write, apply_ite some]

/-- Settles O8: `ramIndex` is the address modulo 0x800. -/
theorem ramIsMirroredEvery2KiB : Obligations.RamIsMirroredEvery2KiB := fun s _ v h =>
  ⟨memRead_of_ram s h, memWrite_ram v s h, fun _ hq => memWrite_peek_ram v s h hq⟩

/-! ### The stub ranges (R34, R35) -/

/-- Settles O9: a stub address reads as 0, which a read answers with no change; its write is dropped. -/
theorem stubsReadZeroAndDropWrites : Obligations.StubsReadZeroAndDropWrites := fun s _ v h1 h2 =>
  ⟨memRead_of_peek (peek_stub s h1 h2), memWrite_stub v s h1 h2⟩

/-! ### The NROM-like mapper (R38 to R40) -/

theorem peek_nrom_window {p : Addr} {s : State} (hm : s.mapper = .nrom) (h : 0x8000 ≤ p.toNat) :
    s.peek p = some (s.prg.read (prgOffset s.prgExtended p)) := by
  rw [peek_cartridge s (by omega), peekPRG, hm]
  exact if_pos h

theorem peek_nrom_below_window {p : Addr} {s : State} (hm : s.mapper = .nrom) (h1 : 0x4020 ≤ p.toNat)
    (h2 : p.toNat ≤ 0x7FFF) : s.peek p = none := by
  rw [peek_cartridge s h1, peekPRG, hm]
  exact if_neg (by omega)

/-- Settles O10: the window states its byte; below it no byte is stated, so the read takes a free value. -/
theorem nromWindowReadsTheProgramBank : Obligations.NromWindowReadsTheProgramBank := fun _ _ hm =>
  ⟨fun h => memRead_of_peek (peek_nrom_window hm h), fun h1 h2 => memRead_of_free (peek_nrom_below_window hm h1 h2)⟩

/-- Settles O11: the write is the report and nothing else. -/
theorem nromRejectsEveryWrite : Obligations.NromRejectsEveryWrite := by
  intro s addr v hm h
  rw [memWrite_nrom v s h hm]
  exact ⟨rfl, rfl, rfl⟩

/-! ### The dummy mapper (R41) -/

theorem peek_dummy {p : Addr} {s : State} (hm : s.mapper = .dummy) (h : 0x4020 ≤ p.toNat) :
    s.peek p = some (s.dram.read p.toNat) := by
  rw [peek_cartridge s h, peekPRG, hm]

/-- In cartridge space the dummy mapper's cells are the addresses: a write is seen at its own address alone. -/
theorem memWrite_peek_dummy {p q : Addr} (v : Byte) {s : State} (hm : s.mapper = .dummy) (hp : 0x4020 ≤ p.toNat)
    (hq : 0x4020 ≤ q.toNat) : (memWrite p v s).peek q = if q = p then some v else s.peek q := by
  rw [peek_dummy ((memWrite_mapper p v s).trans hm) hq, peek_dummy hm hq, memWrite_dummy v s hp hm, State.setDRAM_dram,
    Memory.read_write, apply_ite some]
  simp only [BitVec.toNat_inj]

/-- Settles O12: a read answers the cell of its address, and a write is seen at its own address alone. -/
theorem dummyMapperIsFlatMemory : Obligations.DummyMapperIsFlatMemory := fun _ _ v hm h =>
  ⟨memRead_of_peek (peek_dummy hm h), memWrite_dummy v _ h hm, fun _ hq => memWrite_peek_dummy v hm h hq⟩

/-! ### The frame of a bus write -/

theorem memWrite_peek_of_not_sameCell {p q : Addr} (v : Byte) (s : State) (h : ¬ sameCell q p) :
    (memWrite p v s).peek q = s.peek q :=
  memWrite_peek_other v s (fun e => h (.inl e)) fun hq hp e => h (.inr ⟨hq, hp, e⟩)

/-- The cell of a RAM address is its images (R33). -/
theorem sameCell_iff_of_ram {p : Addr} (q : Addr) (hp : regionOf p = .ram) :
    sameCell q p ↔ regionOf q = .ram ∧ ramIndex q = ramIndex p := by
  constructor
  · rintro (rfl | ⟨hq, -, hcell⟩)
    · exact ⟨hp, rfl⟩
    · exact ⟨hq, hcell⟩
  · rintro ⟨hq, hcell⟩
    exact .inr ⟨hq, hp, hcell⟩

/-- Outside RAM an address has no image but itself. -/
theorem sameCell_iff_of_not_ram {p : Addr} (q : Addr) (hp : regionOf p ≠ .ram) : sameCell q p ↔ q = p := by
  simp [sameCell, hp]

/-- Settles O13: the frame is that of every write; the read-back is by the region of the written address. -/
theorem writeLeavesEveryOtherCellAlone : Obligations.WriteLeavesEveryOtherCellAlone := by
  refine fun s addr v => ⟨fun q h => memWrite_peek_of_not_sameCell v s h, ?_⟩
  rintro (hp | ⟨hp, hm⟩) q hcell
  · obtain ⟨hq, hindex⟩ := (sameCell_iff_of_ram q hp).mp hcell
    rw [memWrite_peek_ram v s ((regionOf_eq_ram_iff addr).mp hp) ((regionOf_eq_ram_iff q).mp hq), if_pos hindex]
  · obtain rfl := (sameCell_iff_of_not_ram q (by simp [hp])).mp hcell
    have hq := (regionOf_eq_cartridge_iff q).mp hp
    rw [memWrite_peek_dummy v hm hq hq, if_pos rfl]

/-! ### Words (R43) -/

theorem word16_eq_ofNat (hi lo : Byte) : word16 hi lo = BitVec.ofNat 16 (hi.toNat * 0x100 + lo.toNat) := by
  rw [← word16_toNat, BitVec.ofNat_toNat, BitVec.setWidth_eq]

/-- Settles O14: the second read is of the address plus 1, whatever the page (D9). -/
theorem wordsAreLittleEndian : Obligations.WordsAreLittleEndian := by
  intro s addr
  simp only [← word16_eq_ofNat]
  exact ⟨fun _ _ hlo hhi => readWord_of_peek hlo hhi, rfl⟩

end Sys2Proof.Machine
end

section
/-! PROOFS. The decoder and the encoder are inverse to each other (30_encoding.md R60 to R71). What `decode` answers is said
once, by the cell of the opcode byte and the operand its bytes hold (`decode_eq_ok_iff`); that the tables list every
instruction at its own opcode (`instr_cellOf_opcode`) and that every cell agrees with its byte (`cellOf_agrees`) then give
the two directions. -/

namespace Sys2Proof

/-! ### The instruction a cell names -/

/-- The instruction a cell names for an operand, where the cell takes an operand of that width (R62, R66). -/
def Cell.instr : Cell → Payload → Option Instr
  | .noOperand i, .none => some i
  | .byteOperand f, .byte b => some (f b)
  | .wordOperand f, .word w => some (f w)
  | _, _ => none

theorem Cell.instr_cases {c : Cell} {p : Payload} {i : Instr} (h : c.instr p = some i) :
    (c = .noOperand i ∧ p = .none) ∨ (∃ f b, c = .byteOperand f ∧ p = .byte b ∧ i = f b) ∨
      (∃ f w, c = .wordOperand f ∧ p = .word w ∧ i = f w) := by
  unfold Cell.instr at h
  split at h <;> cases h
  · exact .inl ⟨rfl, rfl⟩
  · exact .inr (.inl ⟨_, _, rfl, rfl, rfl⟩)
  · exact .inr (.inr ⟨_, _, rfl, rfl, rfl⟩)

/-- What agreement with an opcode byte says of the instruction a cell names, whatever the width of its operand: that opcode,
the operand given, the length of the bytes, and no operand where it is unimplemented (R60, R68). -/
theorem Cell.Agrees.of_instr {op : Byte} {c : Cell} {p : Payload} {i : Instr} (hc : c.Agrees op)
    (hi : c.instr p = some i) :
    i.opcode = op ∧ i.payload = p ∧ i.length = p.bytes.length + 1 ∧ (i.mnemonic = .unimplemented → p = .none) := by
  obtain ⟨rfl, rfl⟩ | ⟨f, b, rfl, rfl, rfl⟩ | ⟨f, w, rfl, rfl, rfl⟩ := Cell.instr_cases hi
  · obtain ⟨hop, hpayload, hlength⟩ := hc
    exact ⟨hop, hpayload, hlength, fun _ => rfl⟩
  · obtain ⟨hop, hpayload, hlength, hne⟩ := hc b
    exact ⟨hop, hpayload, hlength, fun h => absurd h hne⟩
  · obtain ⟨hop, hpayload, hlength, hne⟩ := hc w
    exact ⟨hop, hpayload, hlength, fun h => absurd h hne⟩

/-- Two bytes hold an operand of the width the cell takes. -/
theorem Cell.exists_operand (c : Cell) (b1 b2 : Byte) (bytes : List Byte) :
    ∃ p i rest, c.instr p = some i ∧ b1 :: b2 :: bytes = p.bytes ++ rest := by
  cases c with
  | noOperand i => exact ⟨.none, i, b1 :: b2 :: bytes, rfl, rfl⟩
  | byteOperand f => exact ⟨.byte b1, f b1, b2 :: bytes, rfl, rfl⟩
  | wordOperand f => exact ⟨.word (word16 b2 b1), f (word16 b2 b1), bytes, rfl, by simp [Payload.bytes]⟩

/-- The dispatch tables list every instruction in the cell of its opcode (R62 to R65, R68). -/
theorem instr_cellOf_opcode (i : Instr) : (cellOf i.opcode).instr i.payload = some i := by
  cases i <;> dsimp only [Instr.opcode] <;> rfl

/-! ### What the decoder answers -/

theorem decode_of_instr {op : Byte} {p : Payload} {i : Instr} (h : (cellOf op).instr p = some i) (rest : List Byte) :
    decode (op :: p.bytes ++ rest) = .ok (i, rest) := by
  obtain ⟨hc, rfl⟩ | ⟨f, b, hc, rfl, rfl⟩ | ⟨f, w, hc, rfl, rfl⟩ := Cell.instr_cases h <;>
    simp [decode, hc, Payload.bytes]

/-- The decoder answers the instruction that the cell of the opcode byte names for the operand after it, and what is left
(R60, R62, R66). -/
theorem decode_eq_ok_iff {bytes rest : List Byte} {i : Instr} :
    decode bytes = .ok (i, rest) ↔ ∃ op p, (cellOf op).instr p = some i ∧ bytes = op :: p.bytes ++ rest := by
  constructor
  · intro h
    unfold decode at h
    split at h
    · cases h
    next op tail =>
      refine ⟨op, ?_⟩
      split at h <;> cases h
      next hc => exact ⟨.none, by rw [hc]; rfl, rfl⟩
      next f b hc => exact ⟨.byte b, by rw [hc]; rfl, rfl⟩
      next f lo hi hc => exact ⟨.word (word16 hi lo), by rw [hc]; rfl, by simp [Payload.bytes]⟩
  · rintro ⟨op, p, hi, rfl⟩
    exact decode_of_instr hi rest

/-- A cell that holds an unimplemented instruction (R68). -/
def Cell.isUnimplemented : Cell → Bool
  | .noOperand i => i.mnemonic = .unimplemented
  | _ => false

/-- The opcode byte alone decides whether an unimplemented instruction is decoded (R68). -/
theorem exists_decode_unimplemented_iff (op b1 b2 : Byte) :
    (∃ i rest, decode [op, b1, b2] = .ok (i, rest) ∧ i.mnemonic = .unimplemented) ↔
      (cellOf op).isUnimplemented = true := by
  have hagrees := cellOf_agrees op
  cases hc : cellOf op with
  | noOperand i => simp [decode, hc, Cell.isUnimplemented]
  | byteOperand f =>
    obtain ⟨-, -, -, hne⟩ := (hc ▸ hagrees) b1
    simp [decode, hc, Cell.isUnimplemented, hne]
  | wordOperand f =>
    obtain ⟨-, -, -, hne⟩ := (hc ▸ hagrees) (word16 b2 b1)
    simp [decode, hc, Cell.isUnimplemented, hne]

end Sys2Proof

namespace Sys2Proof.Machine

/-! ### The statements -/

/-- Settles O1: the cell of an instruction's opcode names it for its own operand. -/
theorem decodeOfEncodeIsTheInstruction : Obligations.DecodeOfEncodeIsTheInstruction := fun i rest =>
  decode_of_instr (instr_cellOf_opcode i) rest

/-- Settles O2: the decoded instruction has the opcode of the cell it was found in and the operand that was read. -/
theorem encodeOfDecodeIsTheBytes : Obligations.EncodeOfDecodeIsTheBytes := by
  intro bytes i rest h
  obtain ⟨op, p, hi, rfl⟩ := decode_eq_ok_iff.mp h
  obtain ⟨rfl, rfl, -, -⟩ := (cellOf_agrees op).of_instr hi
  rfl

/-- Settles O3: two bytes are enough for the operand of any cell, and the cell fixes the opcode and the length. -/
theorem everyOpcodeByteHasAnInstruction : Obligations.EveryOpcodeByteHasAnInstruction := by
  intro op b1 b2 bytes
  obtain ⟨p, i, rest, hi, hbytes⟩ := (cellOf op).exists_operand b1 b2 bytes
  obtain ⟨hop, hpayload, hlength, hnone⟩ := (cellOf_agrees op).of_instr hi
  have hrest : (b1 :: b2 :: bytes).drop (i.length - 1) = rest := by simp [hbytes, hlength]
  refine ⟨i, hop, ?_, ?_, fun h => ?_⟩
  · rw [hrest, hbytes]
    exact decode_of_instr hi rest
  · rw [encode, hpayload, hlength, List.length_cons]
  · rw [hlength, hnone h]
    rfl

/-- Settles O4: each word is evaluated through the dispatch tables. -/
theorem sampleWordsDecodeAsTheTablesSay : Obligations.SampleWordsDecodeAsTheTablesSay :=
  ⟨rfl, rfl, rfl, rfl, rfl, rfl, rfl, rfl, rfl, rfl, rfl⟩

/-- Settles O5: the cell of each of the 256 bytes, against the lists of R68. -/
theorem unimplementedBytesAreTheListed104 : Obligations.UnimplementedBytesAreTheListed104 := by
  intro op b1 b2
  rw [exists_decode_unimplemented_iff]
  obtain ⟨n, hn, rfl⟩ : ∃ n < 256, op = BitVec.ofNat 8 n := ⟨op.toNat, op.isLt, by simp⟩
  interval_cases n <;> decide

end Sys2Proof.Machine
end

section
/-! PROOFS. The resolver, mode by mode (40_addressing_modes.md): the effective address as a number, the byte read there, and
a write through a mode. What an instruction can leave in `cond` is said once for every instruction (`exec_cond`). -/

namespace Sys2Proof.Machine

/-! ### The address sums and the pointers (R84 to R90) -/

theorem zext16_eq_ofNat (v : Byte) : zext16 v = BitVec.ofNat 16 v.toNat := (BitVec.ofNat_toNat 16 v).symm

/-- An index is added to a 16-bit base modulo 0x10000 (R87, R88, R90, D8). -/
theorem add_zext16_eq_ofNat (w : Addr) (v : Byte) : w + zext16 v = BitVec.ofNat 16 (w.toNat + v.toNat) := by
  rw [BitVec.ofNat_add, BitVec.ofNat_toNat, BitVec.setWidth_eq, zext16_eq_ofNat]

/-- A pointer of IndirectX or IndirectY stands in the RAM cells of its own number and the next: neither the page (D9, D10)
nor the mirror (R33) wraps it. -/
theorem readWord_pointer {q : Addr} (s : State) (h : q.toNat ≤ 0x1FE) :
    readWord q s = (word16 (s.ram.read (q.toNat + 1)) (s.ram.read q.toNat), s) := by
  have hnext : (q + 1).toNat = q.toNat + 1 := BitVec.toNat_add_of_lt (by change q.toNat + 1 < 0x10000; omega)
  have hlo : ramIndex q = q.toNat := Nat.mod_eq_of_lt (by omega)
  have hhi : ramIndex (q + 1) = q.toNat + 1 := hnext ▸ Nat.mod_eq_of_lt (by omega)
  rw [readWord_of_ram s (by omega), hlo, hhi]

theorem effectiveAddress_indirectX (p : Byte) (s : State) :
    effectiveAddress (.indirectX p) s =
      (word16 (s.ram.read (p.toNat + s.x.toNat + 1)) (s.ram.read (p.toNat + s.x.toNat)), s.advancePC 1) := by
  have hp := p.isLt
  have hx := s.x.isLt
  have hsum := zeroPageSum_toNat p s.x
  simp only [effectiveAddress]
  rw [readWord_pointer _ (by omega), hsum]
  rfl

theorem effectiveAddress_indirectY (p : Byte) (s : State) :
    effectiveAddress (.indirectY p) s =
      (word16 (s.ram.read (p.toNat + 1)) (s.ram.read p.toNat) + zext16 s.y, s.advancePC 1) := by
  have hp := p.isLt
  have hpointer := zext16_toNat p
  simp only [effectiveAddress]
  rw [readWord_pointer _ (by omega), hpointer]
  rfl

/-- Settles O17: the sums are those of the two numbers modulo 0x10000, and both pointers stand in RAM. -/
theorem indexedAndIndirectAddresses : Obligations.IndexedAndIndirectAddresses := by
  refine fun s p w => ⟨Prod.ext (add_zext16_eq_ofNat w s.x) rfl, Prod.ext (add_zext16_eq_ofNat w s.y) rfl, ?_, ?_⟩
  · rw [effectiveAddress_indirectX, word16_eq_ofNat]
    rfl
  · rw [effectiveAddress_indirectY, add_zext16_eq_ofNat, word16_toNat]
    rfl

/-- Settles O16: the sum of two bytes is below 0x10000, so the 16-bit sum is their sum. -/
theorem zeroPageIndexedSumsDoNotWrap : Obligations.ZeroPageIndexedSumsDoNotWrap := by
  intro s p
  have hp := p.isLt
  have hx := s.x.isLt
  have hy := s.y.isLt
  exact ⟨zeroPageSum_toNat p s.x, rfl, zeroPageSum_toNat p s.y, rfl, by omega, by omega⟩

/-! ### The data operand (R82, R95) -/

/-- The byte that an Immediate operand carries is the byte of a read at PC, where the fetch took it from there (log 11). -/
theorem readOperand_immediate_of_peek {b : Byte} {s : State} (h : s.peek s.pc = some b) :
    readOperand (.immediate b) s = ((memRead s.pc s).1, { s with pc := s.pc + 1 }) := by
  rw [memRead_of_peek h]
  rfl

/-- Every other operand is one read at the effective address. -/
theorem readOperand_eq_memRead {o : Operand} (s : State) (hi : ∀ b, o ≠ .immediate b) :
    readOperand o s = memRead (target o s) (s.advancePC o.length) := by
  rw [← effectiveAddress_state]
  cases o with
  | immediate b => exact absurd rfl (hi b)
  | _ => rfl

/-- Settles O15: the operand bytes are the address, read as a number. -/
theorem immediateZeroPageAbsoluteAddresses : Obligations.ImmediateZeroPageAbsoluteAddresses := fun _ b lo hi =>
  ⟨rfl, readOperand_immediate_of_peek, Prod.ext (zext16_eq_ofNat b) rfl, Prod.ext (word16_eq_ofNat hi lo) rfl⟩

/-- Settles O18: a stub states the byte 0, as RAM and a mapper state theirs. -/
theorem operandIsTheByteAtTheEffectiveAddress : Obligations.OperandIsTheByteAtTheEffectiveAddress := by
  refine fun s => ⟨fun b => ⟨rfl, readOperand_immediate_of_peek⟩, fun o hi => ⟨readOperand_eq_memRead s hi, ?_, ?_⟩⟩
  · exact fun v hv => readOperand_of_peek hi hv
  · rintro ⟨hlow, hhigh⟩
    rw [operandByte, readOperand_of_peek hi (peek_stub s hlow hhigh)]

end Sys2Proof.Machine

namespace Sys2Proof

/-! ### What each instruction can leave in `cond` -/

/-- The conditions that a mnemonic's instructions can leave where `c` stood before (R200 to R204); for the shifts and rotates,
in their memory forms. -/
def Mnemonic.conditions (c : Machine.Condition) : Mnemonic → List Machine.Condition
  | .unimplemented => [.unimplementedOpcode]
  | .sta | .stx | .sty | .asl | .rol | .lsr | .ror | .inc | .dec => [c, .mapperWriteRejected]
  | _ => [c]

/-- The conditions that an instruction can leave: those of its mnemonic, but for the invalid write 0x89 (R202) and
the accumulator forms, which write no memory (R81). -/
def Instr.conditions (c : Machine.Condition) : Instr → List Machine.Condition
  | .staImm _ => [.invalidWrite]
  | .aslAcc | .rolAcc | .lsrAcc | .rorAcc => [c]
  | i => i.mnemonic.conditions c

end Sys2Proof

namespace Sys2Proof.Machine

/-- Of the instructions, 0x89 alone has InvalidWrite among its conditions (R202, D14). -/
theorem invalidWrite_not_mem_conditions {i : Instr} {c : Condition} (hi : ∀ b, i ≠ .staImm b) (hc : c ≠ .invalidWrite) :
    .invalidWrite ∉ i.conditions c := by
  have hmnemonic : .invalidWrite ∉ i.mnemonic.conditions c := by
    unfold Mnemonic.conditions
    split <;> simp [hc.symm]
  unfold Instr.conditions
  split
  case h_1 b => exact absurd rfl (hi b)
  case h_6 => exact hmnemonic
  -- The four accumulator forms.
  all_goals simp [hc.symm]

theorem cond_of_blankRegisters {s t : State} (h : t.blankRegisters = s.blankRegisters) : t.cond = s.cond := by
  obtain ⟨-, -, -, hcond, -⟩ := (blankRegisters_eq_iff s t).mp h
  exact hcond

/-- A bus write reports nothing or a rejection (R204). -/
theorem memWrite_cond_mem (p : Addr) (v : Byte) {s t : State} (h : t.cond = s.cond) :
    (memWrite p v t).cond ∈ [s.cond, .mapperWriteRejected] := by
  rcases memWrite_cases p v t with ⟨-, hw⟩ | ⟨-, hw⟩ | ⟨-, -, hw⟩ | ⟨-, -, hw⟩ <;> simp [hw, h]

theorem storeOperand_cond_mem {o : Operand} (v : Byte) (s : State) (hi : ∀ b, o ≠ .immediate b) :
    (storeOperand o v s).cond ∈ [s.cond, .mapperWriteRejected] := by
  rw [storeOperand_eq v s hi]
  exact memWrite_cond_mem _ v rfl

theorem modifyOperand_cond_mem (o : Operand) (f : Byte → Flags → Byte × Flags) (s : State) :
    (modifyOperand o f s).cond ∈ [s.cond, .mapperWriteRejected] := by
  rw [modifyOperand_eq]
  exact memWrite_cond_mem _ _ rfl

/-- The stack lies in RAM, where no write is rejected (R12, R33). -/
theorem push_cond (v : Byte) (s : State) : (push v s).cond = s.cond := by rw [push_eq]

theorem pushWord_cond (w : Addr) (s : State) : (pushWord w s).cond = s.cond := by rw [pushWord_eq]

theorem enterVector_cond (ret vector : Addr) (s : State) : (enterVector ret vector s).cond = s.cond := by
  simp [enterVector, push_cond, pushWord_cond]

/-- Every instruction answers a next state, whose `cond` is one of the instruction's conditions. -/
theorem exec_cond (i : Instr) (s : State) : ∃ t, exec i s = .next t ∧ t.cond ∈ i.conditions s.cond := by
  cases i with
  | staImm _ => exact ⟨_, rfl, List.mem_singleton.mpr rfl⟩
  | staInx _ | staZp _ | staAbs _ | staIny _ | staZpx _ | staAby _ | staAbx _ | stxZp _ | stxAbs _ | stxZpy _
  | styZp _ | styAbs _ | styZpx _ =>
    exact ⟨_, rfl, storeOperand_cond_mem _ s nofun⟩
  | aslZp _ | aslAbs _ | aslZpx _ | aslAbx _ | rolZp _ | rolAbs _ | rolZpx _ | rolAbx _
  | lsrZp _ | lsrAbs _ | lsrZpx _ | lsrAbx _ | rorZp _ | rorAbs _ | rorZpx _ | rorAbx _
  | decZp _ | decAbs _ | decZpx _ | decAbx _ | incZp _ | incAbs _ | incZpx _ | incAbx _ =>
    exact ⟨_, rfl, modifyOperand_cond_mem _ _ s⟩
  | pha | php => exact ⟨_, rfl, List.mem_singleton.mpr (push_cond _ s)⟩
  | jsr _ => exact ⟨_, rfl, List.mem_singleton.mpr (pushWord_cond _ s)⟩
  | brk => exact ⟨_, rfl, List.mem_singleton.mpr (enterVector_cond _ _ s)⟩
  -- An operand read, a pull, a branch or a jump, and what is written after it: registers only.
  | oraInx _ | oraZp _ | oraImm _ | oraAbs _ | oraIny _ | oraZpx _ | oraAby _ | oraAbx _
  | andInx _ | andZp _ | andImm _ | andAbs _ | andIny _ | andZpx _ | andAby _ | andAbx _
  | eorInx _ | eorZp _ | eorImm _ | eorAbs _ | eorIny _ | eorZpx _ | eorAby _ | eorAbx _
  | adcInx _ | adcZp _ | adcImm _ | adcAbs _ | adcIny _ | adcZpx _ | adcAby _ | adcAbx _
  | ldaInx _ | ldaZp _ | ldaImm _ | ldaAbs _ | ldaIny _ | ldaZpx _ | ldaAby _ | ldaAbx _
  | cmpInx _ | cmpZp _ | cmpImm _ | cmpAbs _ | cmpIny _ | cmpZpx _ | cmpAby _ | cmpAbx _
  | sbcInx _ | sbcZp _ | sbcImm _ | sbcAbs _ | sbcIny _ | sbcZpx _ | sbcAby _ | sbcAbx _
  | ldxImm _ | ldxZp _ | ldxAbs _ | ldxZpy _ | ldxAby _ | ldyImm _ | ldyZp _ | ldyAbs _ | ldyZpx _ | ldyAbx _
  | bitZp _ | bitAbs _ | cpxImm _ | cpxZp _ | cpxAbs _ | cpyImm _ | cpyZp _ | cpyAbs _
  | bpl _ | bmi _ | bvc _ | bvs _ | bcc _ | bcs _ | bne _ | beq _ | jmpAbs _ | jmpInd _ | rts | rti | plp | pla =>
    exact ⟨_, rfl, List.mem_singleton.mpr (cond_of_blankRegisters (by simp [loadA]))⟩
  -- The other instructions without an operand, and the 104 unimplemented opcode bytes (R203).
  | _ => exact ⟨_, rfl, List.mem_singleton.mpr rfl⟩

/-- Settles O19: what 0x89 does is one report, and no other instruction can leave InvalidWrite in `cond`. -/
theorem writeThroughImmediateIsInvalid : Obligations.WriteThroughImmediateIsInvalid := by
  intro s ea v
  refine ⟨fun _ => rfl, rfl, fun o hi => ?_, fun b => storeOperand_immediate b v s, fun i hi t ht hs hinvalid => ?_⟩
  · cases o with
    | immediate b => exact absurd rfl (hi b)
    | _ => rfl
  · obtain ⟨u, hu, hmem⟩ := exec_cond i s
    obtain rfl := eq_of_exec hu ht
    exact invalidWrite_not_mem_conditions hi hs (hinvalid ▸ hmem)

end Sys2Proof.Machine
end

section
/-! PROOFS. The flag_arithmetic cores as numbers: SubCore (41_flag_arithmetic.md R102), and the rotates (R107), which move a
ring of nine bits, the eight of the byte and Carry, by one place. -/

namespace Sys2Proof.Machine

/-! ### SubCore (R102) -/

/-- The difference on 16 bits wraps once where there is a borrow (R102). -/
theorem zext16_sub_toNat (a m : Byte) : (zext16 a - zext16 m).toNat = (a.toNat + 0x10000 - m.toNat) % 0x10000 := by
  have ha := a.isLt
  have hm := m.isLt
  rw [BitVec.toNat_sub, zext16_toNat, zext16_toNat]
  omega

theorem loByte_toNat (w : Addr) : (loByte w).toNat = w.toNat % 0x100 := BitVec.extractLsb'_toNat 0 8 w

theorem subCore_r_toNat (a m : Byte) : (subCore a m).r.toNat = (a.toNat + 0x100 - m.toNat) % 0x100 := by
  have ha := a.isLt
  have hm := m.isLt
  have hr : (subCore a m).r.toNat = (zext16 a - zext16 m).toNat % 0x100 := loByte_toNat _
  rw [hr, zext16_sub_toNat]
  omega

/-- The bits of the difference above bit 7 are 0 exactly where there is no borrow (R102). -/
theorem subCore_c_iff (a m : Byte) : (subCore a m).c = true ↔ m.toNat ≤ a.toNat := by
  have ha := a.isLt
  have hm := m.isLt
  have hc : (subCore a m).c = true ↔ (zext16 a - zext16 m).toNat / 0x100 = 0 := by
    rw [subCore, beq_iff_eq, ← BitVec.toNat_inj, BitVec.toNat_ushiftRight, Nat.shiftRight_eq_div_pow]
    rfl
  rw [hc, zext16_sub_toNat]
  omega

theorem byte_msb (v : Byte) : v.msb = decide (0x80 ≤ v.toNat) := BitVec.msb_eq_decide v

/-- The same-sign rule on the numbers: bit 7 of the operands agrees, bit 7 of the result does not (R101, R102). -/
theorem sameSignOverflow_iff (a m r : Byte) :
    sameSignOverflow a m r = true ↔
      (0x80 ≤ a.toNat ↔ 0x80 ≤ m.toNat) ∧ ¬ (0x80 ≤ r.toNat ↔ 0x80 ≤ a.toNat) := by
  simp [sameSignOverflow, byte_msb]

/-- Settles O20: V by the same-sign rule, with the difference as a number. -/
theorem subtractIgnoresCarryAndItsOverflowClosedForm :
    Obligations.SubtractIgnoresCarryAndItsOverflowClosedForm := by
  intro a m
  have ha := a.isLt
  have hm := m.isLt
  have hr := subCore_r_toNat a m
  have hv : (subCore a m).v = true ↔ _ := sameSignOverflow_iff a m (subCore a m).r
  refine ⟨hr, subCore_c_iff a m, ?_⟩
  rw [hv, hr]
  omega

/-! ### The rotates (R107) -/

/-- A concatenation is the high part times a power of two plus the low part. -/
theorem append_toNat {m n : Nat} (x : BitVec m) (y : BitVec n) : (x ++ y).toNat = x.toNat * 2 ^ n + y.toNat := by
  rw [BitVec.toNat_append, ← Nat.shiftLeft_add_eq_or_of_lt y.isLt, Nat.shiftLeft_eq]

theorem rolCore_r_toNat (v : Byte) (cin : Bool) :
    (rolCore v cin).r.toNat = (2 * v.toNat + cin.toNat) % 0x100 := by
  have hcin := cin.toNat_le
  simp only [rolCore, append_toNat, BitVec.extractLsb'_toNat, BitVec.toNat_ofBool, Nat.shiftRight_zero]
  omega

theorem rorCore_r_toNat (v : Byte) (cin : Bool) :
    (rorCore v cin).r.toNat = cin.toNat * 0x80 + v.toNat / 2 := by
  have hv := v.isLt
  simp only [rorCore, append_toNat, BitVec.extractLsb'_toNat, BitVec.toNat_ofBool, Nat.shiftRight_one]
  omega

theorem rolCore_r_getLsbD (v : Byte) (cin : Bool) (k : Nat) :
    (rolCore v cin).r.getLsbD k = if k = 0 then cin else decide (k - 1 < 7) && v.getLsbD (k - 1) := by
  rw [rolCore, BitVec.getLsbD_append]
  by_cases hk : k = 0 <;> simp [hk]

theorem rorCore_r_getLsbD (v : Byte) (cin : Bool) (k : Nat) :
    (rorCore v cin).r.getLsbD k = if k < 7 then v.getLsbD (1 + k) else decide (k - 7 = 0) && cin := by
  rw [rorCore, BitVec.getLsbD_append]
  by_cases hk : k < 7 <;> simp [hk]

theorem rolCore_c (v : Byte) (cin : Bool) : (rolCore v cin).c = v.getLsbD 7 := rfl

theorem rorCore_c (v : Byte) (cin : Bool) : (rorCore v cin).c = v.getLsbD 0 := rfl

/-- ROL on the byte and Carry together. -/
def rolPair (q : Byte × Bool) : Byte × Bool := ((rolCore q.1 q.2).r, (rolCore q.1 q.2).c)

/-- ROR on the byte and Carry together. -/
def rorPair (q : Byte × Bool) : Byte × Bool := ((rorCore q.1 q.2).r, (rorCore q.1 q.2).c)

/-- The nine bits a rotate moves: bits 0 to 7 of the byte, then Carry. -/
def ringBit (q : Byte × Bool) (k : Fin 9) : Bool := if k = 8 then q.2 else q.1.getLsbD k

theorem ringBit_injective : Function.Injective ringBit := by
  intro p q h
  have hbit (k : Fin 9) : ringBit p k = ringBit q k := congrFun h k
  refine Prod.ext (BitVec.eq_of_getLsbD_eq fun k hk => ?_) (hbit 8)
  have hne : (⟨k, by omega⟩ : Fin 9) ≠ 8 := by simp [Fin.ext_iff]; omega
  simpa [ringBit, hne] using hbit ⟨k, by omega⟩

/-- ROL moves each bit of the ring one place up, Carry into bit 0 (R107). -/
theorem ringBit_rolPair (q : Byte × Bool) (k : Fin 9) : ringBit (rolPair q) (k + 1) = ringBit q k := by
  fin_cases k <;> simp [ringBit, rolPair, rolCore_r_getLsbD, rolCore_c, -BitVec.getLsbD_eq_getElem]

/-- ROR moves each bit of the ring one place down, bit 0 into Carry (R107). -/
theorem ringBit_rorPair (q : Byte × Bool) (k : Fin 9) : ringBit (rorPair q) k = ringBit q (k + 1) := by
  fin_cases k <;> simp [ringBit, rorPair, rorCore_r_getLsbD, rorCore_c, -BitVec.getLsbD_eq_getElem]

theorem rorPair_rolPair : Function.LeftInverse rorPair rolPair := fun q =>
  ringBit_injective (funext fun k => (ringBit_rorPair (rolPair q) k).trans (ringBit_rolPair q k))

theorem ringBit_rorPair_iterate (n : Nat) (q : Byte × Bool) (k : Fin 9) :
    ringBit (rorPair^[n] q) k = ringBit q (k + Fin.ofNat 9 n) := by
  induction n generalizing q with
  | zero => simp
  | succ n ih =>
    have hplace : k + Fin.ofNat 9 n + 1 = k + Fin.ofNat 9 (n + 1) := by
      simp only [Fin.ext_iff, Fin.val_add, Fin.val_ofNat]
      omega
    rw [Function.iterate_succ_apply, ih, ringBit_rorPair, hplace]

/-- Nine places are once around the ring. -/
theorem rorPair_iterate_nine (q : Byte × Bool) : rorPair^[9] q = q :=
  ringBit_injective (funext fun k => (ringBit_rorPair_iterate 9 q k).trans (congrArg (ringBit q) (add_zero k)))

theorem rolPair_iterate_nine (q : Byte × Bool) : rolPair^[9] q = q :=
  (rorPair_iterate_nine _).symm.trans (rorPair_rolPair.iterate 9 q)

/-- Settles O21: the rotates move the ring of the byte and Carry by one place, ROL up and ROR down. -/
theorem rotatesAreNineBitRotations : Obligations.RotatesAreNineBitRotations := fun v cin =>
  ⟨rolCore_r_toNat v cin, rfl, rorCore_r_toNat v cin, rfl, rorPair_rolPair (v, cin), rolPair_iterate_nine (v, cin),
    rorPair_iterate_nine (v, cin)⟩

end Sys2Proof.Machine
end

section
/-! PROOFS. B, D and I are inert (R103, R207): every operation commutes with overwriting them, but for those that write
one of them themselves (the flag instructions, PLP and RTI) and for PHP and BRK, which push the flag byte. -/

namespace Sys2Proof.Machine

/-! ### Overwriting B, D and I -/

/-- The flags with other values of B, D and I. -/
def Flags.withBDI (b d i : Bool) (f : Flags) : Flags := { f with b := b, d := d, i := i }

/-- The state with other values of B, D and I. -/
def State.withBDI (b d i : Bool) (s : State) : State := s.setFlags (s.flags.withBDI b d i)

section
variable {b d i : Bool} {s : State}

@[simp] theorem withBDI_x : (s.withBDI b d i).x = s.x := rfl
@[simp] theorem withBDI_y : (s.withBDI b d i).y = s.y := rfl
@[simp] theorem withBDI_mapper : (s.withBDI b d i).mapper = s.mapper := rfl
@[simp] theorem withBDI_flags : (s.withBDI b d i).flags = s.flags.withBDI b d i := rfl
@[simp] theorem advancePC_withBDI (n : Nat) : (s.withBDI b d i).advancePC n = (s.advancePC n).withBDI b d i := rfl
@[simp] theorem setFlags_withBDI (f : Flags) :
    (s.withBDI b d i).setFlags (f.withBDI b d i) = (s.setFlags f).withBDI b d i := rfl

/-! ### The operations that read no flag -/

theorem memRead_withBDI (p : Addr) :
    memRead p (s.withBDI b d i) = ((memRead p s).1, (memRead p s).2.withBDI b d i) := by
  simp only [memRead, State.withBDI, setFlags_peek]
  cases s.peek p <;> rfl

theorem readWord_withBDI (p : Addr) :
    readWord p (s.withBDI b d i) = ((readWord p s).1, (readWord p s).2.withBDI b d i) := by
  simp only [readWord, memRead_withBDI]

theorem memWrite_withBDI (p : Addr) (v : Byte) : memWrite p v (s.withBDI b d i) = (memWrite p v s).withBDI b d i := by
  simp only [memWrite, writePRG, withBDI_mapper]
  cases regionOf p with
  | cartridge => cases s.mapper <;> rfl
  | _ => rfl

theorem push_withBDI (v : Byte) : push v (s.withBDI b d i) = (push v s).withBDI b d i := by
  rw [push_eq, push_eq]; rfl

theorem pushWord_withBDI (w : Addr) : pushWord w (s.withBDI b d i) = (pushWord w s).withBDI b d i := by
  rw [pushWord_eq, pushWord_eq]; rfl

theorem pull_withBDI : pull (s.withBDI b d i) = ((pull s).1, (pull s).2.withBDI b d i) := by
  rw [pull_eq, pull_eq]; rfl

theorem pullWord_withBDI : pullWord (s.withBDI b d i) = ((pullWord s).1, (pullWord s).2.withBDI b d i) := by
  rw [pullWord_eq, pullWord_eq]; rfl

/-- What a pull of the flags leaves does not depend on the flags before (R16). -/
theorem pullFlags_withBDI : pullFlags (s.withBDI b d i) = pullFlags s := by
  rw [pullFlags_eq, pullFlags_eq]; rfl

theorem returnFromVector_withBDI : returnFromVector (s.withBDI b d i) = returnFromVector s := by
  rw [returnFromVector, pullFlags_withBDI]; rfl

theorem effectiveAddress_withBDI (o : Operand) :
    effectiveAddress o (s.withBDI b d i) = ((effectiveAddress o s).1, (effectiveAddress o s).2.withBDI b d i) := by
  cases o with
  | indirectX _ | indirectY _ => simp [effectiveAddress, readWord_withBDI]
  | _ => rfl

theorem absoluteIndirect_withBDI (w : Addr) :
    absoluteIndirect w (s.withBDI b d i) = ((absoluteIndirect w s).1, (absoluteIndirect w s).2.withBDI b d i) := by
  simp only [absoluteIndirect, advancePC_withBDI, readWord_withBDI]

theorem readOperand_withBDI (o : Operand) :
    readOperand o (s.withBDI b d i) = ((readOperand o s).1, (readOperand o s).2.withBDI b d i) := by
  cases o with
  | immediate v => rfl
  | _ => simp only [readOperand, effectiveAddress_withBDI, memRead_withBDI]

theorem storeOperand_withBDI (o : Operand) (v : Byte) :
    storeOperand o v (s.withBDI b d i) = (storeOperand o v s).withBDI b d i := by
  cases o with
  | immediate _ => rfl
  | _ => simp only [storeOperand, writeOperand, effectiveAddress_withBDI, memWrite_withBDI]

theorem branchIf_withBDI (taken : Bool) (off : Byte) :
    branchIf taken off (s.withBDI b d i) = (branchIf taken off s).withBDI b d i := by
  cases taken <;> rfl

/-! ### The operations on an operand -/

/-- A read-modify-write commutes where its result and the flags it writes do (R92). -/
theorem modifyOperand_withBDI (o : Operand) {f : Byte → Flags → Byte × Flags}
    (hf : ∀ m g, f m (g.withBDI b d i) = ((f m g).1, (f m g).2.withBDI b d i)) :
    modifyOperand o f (s.withBDI b d i) = (modifyOperand o f s).withBDI b d i := by
  simp only [modifyOperand, effectiveAddress_withBDI, memRead_withBDI, withBDI_flags, hf, setFlags_withBDI,
    memWrite_withBDI]

theorem oraOperand_withBDI (o : Operand) : oraOperand o (s.withBDI b d i) = (oraOperand o s).withBDI b d i := by
  rw [oraOperand, readOperand_withBDI]; rfl

theorem andOperand_withBDI (o : Operand) : andOperand o (s.withBDI b d i) = (andOperand o s).withBDI b d i := by
  rw [andOperand, readOperand_withBDI]; rfl

theorem eorOperand_withBDI (o : Operand) : eorOperand o (s.withBDI b d i) = (eorOperand o s).withBDI b d i := by
  rw [eorOperand, readOperand_withBDI]; rfl

theorem adcOperand_withBDI (o : Operand) : adcOperand o (s.withBDI b d i) = (adcOperand o s).withBDI b d i := by
  rw [adcOperand, readOperand_withBDI]; rfl

theorem sbcOperand_withBDI (o : Operand) : sbcOperand o (s.withBDI b d i) = (sbcOperand o s).withBDI b d i := by
  rw [sbcOperand, readOperand_withBDI]; rfl

theorem ldaOperand_withBDI (o : Operand) : ldaOperand o (s.withBDI b d i) = (ldaOperand o s).withBDI b d i := by
  rw [ldaOperand, readOperand_withBDI]; rfl

theorem ldxOperand_withBDI (o : Operand) : ldxOperand o (s.withBDI b d i) = (ldxOperand o s).withBDI b d i := by
  rw [ldxOperand, readOperand_withBDI]; rfl

theorem ldyOperand_withBDI (o : Operand) : ldyOperand o (s.withBDI b d i) = (ldyOperand o s).withBDI b d i := by
  rw [ldyOperand, readOperand_withBDI]; rfl

theorem cmpOperand_withBDI (o : Operand) : cmpOperand o (s.withBDI b d i) = (cmpOperand o s).withBDI b d i := by
  rw [cmpOperand, readOperand_withBDI]; rfl

theorem cpxOperand_withBDI (o : Operand) : cpxOperand o (s.withBDI b d i) = (cpxOperand o s).withBDI b d i := by
  rw [cpxOperand, readOperand_withBDI]; rfl

theorem cpyOperand_withBDI (o : Operand) : cpyOperand o (s.withBDI b d i) = (cpyOperand o s).withBDI b d i := by
  rw [cpyOperand, readOperand_withBDI]; rfl

theorem bitOperand_withBDI (o : Operand) : bitOperand o (s.withBDI b d i) = (bitOperand o s).withBDI b d i := by
  rw [bitOperand, readOperand_withBDI]; rfl

/-! ### Every instruction -/

/-- From the state with other values of B, D and I the instruction answers the same next state, but for B, D and I. -/
def BDIInert (b d i : Bool) (s : State) (instr : Instr) : Prop :=
  ∃ t b' d' i', exec instr s = .next t ∧ exec instr (s.withBDI b d i) = .next (t.withBDI b' d' i')

theorem BDIInert.of_commutes {instr : Instr} {t u : State} (h : u = t.withBDI b d i) (ht : exec instr s = .next t)
    (hu : exec instr (s.withBDI b d i) = .next u) : BDIInert b d i s instr :=
  ⟨t, b, d, i, ht, h ▸ hu⟩

/-- An instruction that writes B, D and I itself, whatever they were. -/
theorem BDIInert.of_overwrites {instr : Instr} {t u : State} (h : u = t) (ht : exec instr s = .next t)
    (hu : exec instr (s.withBDI b d i) = .next u) : BDIInert b d i s instr :=
  ⟨t, t.flags.b, t.flags.d, t.flags.i, ht, h ▸ hu⟩

/-- Every instruction but PHP and BRK, which push the flag byte (R165, R152), reads and writes around B, D and I. -/
theorem exec_bdiInert {instr : Instr} (h : instr.mnemonic ∉ [.php, .brk]) : BDIInert b d i s instr := by
  cases instr with
  | oraInx _ | oraZp _ | oraImm _ | oraAbs _ | oraIny _ | oraZpx _ | oraAby _ | oraAbx _ =>
    exact .of_commutes (oraOperand_withBDI _) rfl rfl
  | andInx _ | andZp _ | andImm _ | andAbs _ | andIny _ | andZpx _ | andAby _ | andAbx _ =>
    exact .of_commutes (andOperand_withBDI _) rfl rfl
  | eorInx _ | eorZp _ | eorImm _ | eorAbs _ | eorIny _ | eorZpx _ | eorAby _ | eorAbx _ =>
    exact .of_commutes (eorOperand_withBDI _) rfl rfl
  | adcInx _ | adcZp _ | adcImm _ | adcAbs _ | adcIny _ | adcZpx _ | adcAby _ | adcAbx _ =>
    exact .of_commutes (adcOperand_withBDI _) rfl rfl
  | sbcInx _ | sbcZp _ | sbcImm _ | sbcAbs _ | sbcIny _ | sbcZpx _ | sbcAby _ | sbcAbx _ =>
    exact .of_commutes (sbcOperand_withBDI _) rfl rfl
  | ldaInx _ | ldaZp _ | ldaImm _ | ldaAbs _ | ldaIny _ | ldaZpx _ | ldaAby _ | ldaAbx _ =>
    exact .of_commutes (ldaOperand_withBDI _) rfl rfl
  | ldxImm _ | ldxZp _ | ldxAbs _ | ldxZpy _ | ldxAby _ => exact .of_commutes (ldxOperand_withBDI _) rfl rfl
  | ldyImm _ | ldyZp _ | ldyAbs _ | ldyZpx _ | ldyAbx _ => exact .of_commutes (ldyOperand_withBDI _) rfl rfl
  | cmpInx _ | cmpZp _ | cmpImm _ | cmpAbs _ | cmpIny _ | cmpZpx _ | cmpAby _ | cmpAbx _ =>
    exact .of_commutes (cmpOperand_withBDI _) rfl rfl
  | cpxImm _ | cpxZp _ | cpxAbs _ => exact .of_commutes (cpxOperand_withBDI _) rfl rfl
  | cpyImm _ | cpyZp _ | cpyAbs _ => exact .of_commutes (cpyOperand_withBDI _) rfl rfl
  | bitZp _ | bitAbs _ => exact .of_commutes (bitOperand_withBDI _) rfl rfl
  | staInx _ | staZp _ | staImm _ | staAbs _ | staIny _ | staZpx _ | staAby _ | staAbx _ | stxZp _ | stxAbs _
  | stxZpy _ | styZp _ | styAbs _ | styZpx _ =>
    exact .of_commutes (storeOperand_withBDI _ _) rfl rfl
  | aslZp _ | aslAbs _ | aslZpx _ | aslAbx _ | rolZp _ | rolAbs _ | rolZpx _ | rolAbx _
  | lsrZp _ | lsrAbs _ | lsrZpx _ | lsrAbx _ | rorZp _ | rorAbs _ | rorZpx _ | rorAbx _
  | decZp _ | decAbs _ | decZpx _ | decAbx _ | incZp _ | incAbs _ | incZpx _ | incAbx _ =>
    exact .of_commutes (modifyOperand_withBDI _ fun _ _ => rfl) rfl rfl
  | bpl _ | bmi _ | bvc _ | bvs _ | bcc _ | bcs _ | bne _ | beq _ =>
    exact .of_commutes (branchIf_withBDI _ _) rfl rfl
  | jmpInd _ => exact .of_commutes (by rw [absoluteIndirect_withBDI]; rfl) rfl rfl
  | jsr _ => exact .of_commutes (by rw [pushWord_withBDI]; rfl) rfl rfl
  | rts => exact .of_commutes (by rw [pullWord_withBDI]; rfl) rfl rfl
  | pha => exact .of_commutes (push_withBDI _) rfl rfl
  | pla => exact .of_commutes (by rw [pull_withBDI]; rfl) rfl rfl
  | plp => exact .of_overwrites pullFlags_withBDI rfl rfl
  | rti => exact .of_overwrites returnFromVector_withBDI rfl rfl
  -- The flag instructions write the one flag as they did before (R177, R178, R180, R181).
  | cli => exact ⟨_, b, d, false, rfl, rfl⟩
  | sei => exact ⟨_, b, d, true, rfl, rfl⟩
  | cld => exact ⟨_, b, false, i, rfl, rfl⟩
  | sed => exact ⟨_, b, true, i, rfl, rfl⟩
  | php | brk => simp [Instr.mnemonic] at h
  -- The other instructions without an operand in memory, and the 104 unimplemented opcode bytes (R203).
  | _ => exact .of_commutes rfl rfl rfl

end

/-- Settles O60: the two next states are each other's, with B, D and I overwritten. -/
theorem breakDecimalInterruptFlagsAreInert : Obligations.BreakDecimalInterruptFlagsAreInert := by
  intro instr s b d i h
  obtain ⟨t, b', d', i', ht, hu⟩ : BDIInert b d i s instr := exec_bdiInert h
  exact ⟨t, _, ht, hu, rfl⟩

end Sys2Proof.Machine
end

section
/-! PROOFS. The accumulator and memory instructions (42_category01_accumulator_memory.md): what each operation on an operand
does, as one update of the state, and its forms; and the frame of every form that writes a data byte, which is one bus write
at the effective address (`exec_storingForms`). -/

namespace Sys2Proof.Machine

/-! ### The forms that write a data byte (R92) -/

/-- What a form that writes a data byte does: registers change, but of them and the flags only PC, N, Z and C; then one byte
goes to the Bus at the effective address. -/
def WritesOnceAt (o : Operand) (s t : State) : Prop :=
  ∃ v u, t = memWrite (target o s) v u ∧ Keeps [.n, .z, .c] (s.advancePC o.length) u ∧
    u.blankRegisters = s.blankRegisters

theorem storeOperand_writesOnceAt {o : Operand} (v : Byte) (s : State) (hi : ∀ b, o ≠ .immediate b) :
    WritesOnceAt o s (storeOperand o v s) :=
  ⟨v, s.advancePC o.length, storeOperand_eq v s hi, .refl _ _, rfl⟩

/-- A read-modify-write, where its result writes no flag but N, Z and C. -/
theorem modifyOperand_writesOnceAt (o : Operand) {f : Byte → Flags → Byte × Flags} (s : State)
    (hf : ∀ m t, Keeps [.n, .z, .c] t (t.setFlags (f m t.flags).2)) : WritesOnceAt o s (modifyOperand o f s) := by
  refine ⟨_, _, rfl, ?_, by simp⟩
  rw [effectiveAddress_state]
  exact (memRead_keeps _ _).trans (hf _ _)

/-- The 37 forms: 13 stores, 16 shifts and rotates, 8 decrements and increments. -/
theorem exec_storingForms (p : Byte) (w : Addr) (s : State) :
    (storingForms p w).Forall fun f => ∃ t, exec f.1 s = .next t ∧ WritesOnceAt f.2 s t := by
  have store {i : Instr} {o : Operand} {v : Byte} (hi : ∀ b, o ≠ .immediate b)
      (h : exec i s = .next (storeOperand o v s)) : ∃ t, exec i s = .next t ∧ WritesOnceAt o s t :=
    ⟨_, h, storeOperand_writesOnceAt v s hi⟩
  have shift {i : Instr} {o : Operand} {q : Byte → Flags → Shifted}
      (h : exec i s = .next (modifyOperand o (fun m f => shiftResult (q m f) f) s)) :
      ∃ t, exec i s = .next t ∧ WritesOnceAt o s t :=
    ⟨_, h, modifyOperand_writesOnceAt o s fun _ t => shiftResult_keeps _ t⟩
  have count {i : Instr} {o : Operand} {r : Byte → Byte}
      (h : exec i s = .next (modifyOperand o (fun m f => countResult (r m) f) s)) :
      ∃ t, exec i s = .next t ∧ WritesOnceAt o s t :=
    ⟨_, h, modifyOperand_writesOnceAt o s fun _ t => (countResult_keeps _ t).mono (by simp)⟩
  exact
    ⟨store nofun rfl, store nofun rfl, store nofun rfl, store nofun rfl, store nofun rfl, store nofun rfl,
      store nofun rfl, store nofun rfl, store nofun rfl, store nofun rfl, store nofun rfl, store nofun rfl,
      store nofun rfl,
      shift rfl, shift rfl, shift rfl, shift rfl, shift rfl, shift rfl, shift rfl, shift rfl,
      shift rfl, shift rfl, shift rfl, shift rfl, shift rfl, shift rfl, shift rfl, shift rfl,
      count rfl, count rfl, count rfl, count rfl, count rfl, count rfl, count rfl, count rfl⟩

theorem peek_of_blankRegisters {s t : State} (h : t.blankRegisters = s.blankRegisters) (q : Addr) :
    t.peek q = s.peek q := by
  obtain ⟨hram, hdram, -, -, hmap, hprg, hext, -⟩ := (blankRegisters_eq_iff s t).mp h
  exact peek_congr q hram hdram hmap hprg hext

theorem WritesOnceAt.peek_other {o : Operand} {s t : State} (h : WritesOnceAt o s t) {q : Addr}
    (hq : ¬ sameCell q (target o s)) : t.peek q = s.peek q := by
  obtain ⟨v, u, rfl, -, hu⟩ := h
  exact (memWrite_peek_of_not_sameCell v u hq).trans (peek_of_blankRegisters hu q)

theorem WritesOnceAt.keeps {o : Operand} {s t : State} (h : WritesOnceAt o s t) :
    Keeps [.memory, .n, .z, .c] (s.advancePC o.length) t := by
  obtain ⟨v, u, rfl, hu, -⟩ := h
  exact (hu.mono (by simp)).trans ((memWrite_keeps _ v u).mono (by simp))

/-- No flag is listed for a store (R17, D22). -/
theorem exec_store_flags {i : Instr} {s t : State} (h : exec i s = .next t) (hi : i.mnemonic ∈ [.sta, .stx, .sty]) :
    t.flags = s.flags := by
  have hne {l : List Mnemonic} (hl : ∀ m ∈ [Mnemonic.sta, .stx, .sty], m ∉ l) : i.mnemonic ∉ l := hl _ hi
  obtain ⟨hnz, hv, hb, -, -, hd, hint, hc⟩ := onlyTheNamedInstructionsWriteAFlag i s t h
  obtain ⟨hn, hz⟩ := hnz (hne (by decide))
  exact (Flags.mk.injEq ..).mpr ⟨hn, hv (hne (by decide)), hb (hne (by decide)), hd (hne (by decide)),
    hint (hne (by decide)), hz, hc (hne (by decide))⟩

/-- Settles O44: the cell is that of the one bus write, and what the write and the computed flags leave alone is kept. -/
theorem storesChangeOnlyTheirOwnCell : Obligations.StoresChangeOnlyTheirOwnCell := by
  refine fun p w s => (exec_storingForms p w s).imp fun f ⟨t, ht, hw⟩ => ?_
  have hkeeps := hw.keeps
  obtain ⟨u, hu, heff⟩ := exec_effect f.1 s
  obtain rfl := eq_of_exec hu ht
  exact ⟨u, hu, fun _ => hw.peek_other, hkeeps .a (by simp), hkeeps .x (by simp), hkeeps .y (by simp),
    hkeeps .sp (by simp), heff.engine_eq, heff.sameParameters, hkeeps .pc (by simp), hkeeps .v (by simp),
    hkeeps .b (by simp), hkeeps .d (by simp), hkeeps .i (by simp), exec_store_flags hu⟩

/-! ### The forms of an instruction -/

/-- Forms that have their bytes and run one operation, each on its own operand (two equations of lists), execute to what that
operation does to the operands they have. -/
theorem Executes.of_map {forms : List Form} {s : State} {run : Operand → State → State} {result : Operand → State}
    (hbytes : forms.map (fun f => encode f.1) = forms.map (fun f => f.2.1))
    (hexec : forms.map (fun f => exec f.1 s) = forms.map (fun f => .next (run f.2.2 s)))
    (hrun : ∀ o ∈ forms.map (fun f => f.2.2), run o s = result o) : Executes forms s result :=
  List.forall_iff_forall_mem.mpr fun f hf =>
    ⟨List.map_inj_left.mp hbytes f hf, hrun f.2.2 (List.mem_map_of_mem hf) ▸ List.map_inj_left.mp hexec f hf⟩

/-- Two bytes are the halves of a word, so the operand bytes of a form may be taken as the halves of its operand (R66). -/
theorem exists_halves (hi lo : Byte) : ∃ w : Addr, hiByte w = hi ∧ loByte w = lo :=
  ⟨word16 hi lo, hiByte_word16 hi lo, loByte_word16 hi lo⟩

/-! ### What each operation does once its operand is read (R95) -/

theorem readOperand_eq_afterOperand (o : Operand) (s : State) : readOperand o s = (operandByte o s, afterOperand o s) :=
  readOperand_eq o s

theorem oraOperand_eq (o : Operand) (s : State) :
    oraOperand o s = loadA (s.a ||| operandByte o s) (afterOperand o s) := by
  rw [oraOperand, readOperand_eq_afterOperand]; rfl

theorem andOperand_eq (o : Operand) (s : State) :
    andOperand o s = loadA (s.a &&& operandByte o s) (afterOperand o s) := by
  rw [andOperand, readOperand_eq_afterOperand]; rfl

theorem eorOperand_eq (o : Operand) (s : State) :
    eorOperand o s = loadA (s.a ^^^ operandByte o s) (afterOperand o s) := by
  rw [eorOperand, readOperand_eq_afterOperand]; rfl

theorem ldaOperand_eq (o : Operand) (s : State) : ldaOperand o s = loadA (operandByte o s) (afterOperand o s) := by
  rw [ldaOperand, readOperand_eq_afterOperand]

theorem adcOperand_eq (o : Operand) (s : State) :
    adcOperand o s = loadSum (addCore s.a (operandByte o s) (adcCarry s)) (afterOperand o s) := by
  rw [adcOperand, readOperand_eq_afterOperand]; rfl

theorem sbcOperand_eq (o : Operand) (s : State) :
    sbcOperand o s = loadSum (subCore s.a (operandByte o s)) (afterOperand o s) := by
  rw [sbcOperand, readOperand_eq_afterOperand]; rfl

theorem cmpOperand_eq (o : Operand) (s : State) :
    cmpOperand o s = (afterOperand o s).setFlags (cmpCoreA s.a (operandByte o s) s.flags) := by
  rw [cmpOperand, readOperand_eq_afterOperand]; rfl

theorem staOperand_eq {o : Operand} (s : State) (hi : ∀ b, o ≠ .immediate b) :
    staOperand o s = memWrite (target o s) s.a (s.advancePC o.length) :=
  storeOperand_eq s.a s hi

/-! ### ORA, AND, EOR, LDA (R110 to R112, R116) -/

/-- Settles O22: each is a load of A with the bitwise result. -/
theorem orAndEorOnTheAccumulator : Obligations.OrAndEorOnTheAccumulator := by
  intro s p lo hi
  obtain ⟨w, rfl, rfl⟩ := exists_halves hi lo
  simp only [word16_halves]
  exact ⟨.of_map (run := oraOperand) rfl rfl fun o _ => oraOperand_eq o s,
    .of_map (run := andOperand) rfl rfl fun o _ => andOperand_eq o s,
    .of_map (run := eorOperand) rfl rfl fun o _ => eorOperand_eq o s⟩

/-- Settles O26: a load of A with the operand byte. -/
theorem ldaLoadsA : Obligations.LoadA := by
  intro s p lo hi
  obtain ⟨w, rfl, rfl⟩ := exists_halves hi lo
  simp only [word16_halves]
  exact .of_map (run := ldaOperand) rfl rfl fun o _ => ldaOperand_eq o s

/-! ### ADC (R113) -/

theorem adcCarry_toNat (s : State) : (adcCarry s).toNat = if s.adcCarryIn && s.flags.c then 1 else 0 := by
  unfold adcCarry
  cases s.adcCarryIn <;> cases s.flags.c <;> rfl

/-- Settles O23: the carry into the sum is 0 or 1 as a number. -/
theorem addWithCarryParameter : Obligations.AddWithCarryParameter := by
  intro s p lo hi
  obtain ⟨w, rfl, rfl⟩ := exists_halves hi lo
  simp only [word16_halves]
  refine .of_map (run := adcOperand) rfl rfl fun o _ => ?_
  rw [adcOperand_eq, addCore, adcCarry_toNat]
  rfl

/-! ### SBC (R118) -/

/-- The 16-bit difference, cut to 8 bits, is the 8-bit difference, and its upper bits are the borrow (R102). -/
theorem subCore_eq (a m : Byte) :
    subCore a m = { r := a - m, c := decide (m.toNat ≤ a.toNat), v := sameSignOverflow a m (a - m) } := by
  have hr : (subCore a m).r = a - m := by
    have hm := m.isLt
    rw [← BitVec.toNat_inj, subCore_r_toNat, BitVec.toNat_sub]
    omega
  have hc : (subCore a m).c = decide (m.toNat ≤ a.toNat) := Bool.eq_iff_iff.mpr (by simp [subCore_c_iff])
  have hv : (subCore a m).v = sameSignOverflow a m (subCore a m).r := rfl
  rw [← hr, ← hc, ← hv]

/-- Settles O28: the difference and the borrow are of A and the operand alone. -/
theorem subtractIgnoresTheIncomingCarry : Obligations.SubtractIgnoresTheIncomingCarry := by
  intro s p lo hi
  obtain ⟨w, rfl, rfl⟩ := exists_halves hi lo
  simp only [word16_halves]
  refine .of_map (run := sbcOperand) rfl rfl fun o _ => ?_
  rw [sbcOperand_eq, subCore_eq]
  rfl

/-! ### CMP (R117) -/

/-- Settles O27: N is that of A, as `cmpCoreA` takes it. -/
theorem compareATakesNFromA : Obligations.CompareATakesNFromA := by
  intro s p lo hi
  obtain ⟨w, rfl, rfl⟩ := exists_halves hi lo
  simp only [word16_halves]
  exact .of_map (run := cmpOperand) rfl rfl fun o _ => cmpOperand_eq o s

/-! ### STA (R114, R115) -/

/-- Settles O24: none of the seven forms is Immediate, so each is one bus write. -/
theorem storeAWritesOneByte : Obligations.StoreAWritesOneByte := by
  intro s p lo hi
  obtain ⟨w, rfl, rfl⟩ := exists_halves hi lo
  simp only [word16_halves]
  exact .of_map (run := staOperand) rfl rfl fun o ho => staOperand_eq s fun b hb => by simp [hb] at ho

/-- Settles O25: a store through Immediate is the report of `storeOperand_immediate`. -/
theorem storeAImmediateIsTheInvalidWrite : Obligations.StoreAImmediateIsTheInvalidWrite := fun s b =>
  ⟨rfl, congrArg Host.Outcome.next (storeOperand_immediate b s.a s)⟩

end Sys2Proof.Machine
end

section
/-! PROOFS. The shifts, the rotates and the X register (43_category10_shift_xreg.md), with the loads, stores and counts of Y
(45_category00_data_stack_flags.md): a read-modify-write on an operand that has an address, as one read and one bus write
(`modifyOperand_eq_afterOperand`), and the forms of each operation. -/

namespace Sys2Proof.Machine

/-! ### A read-modify-write once its operand is read (R81, R92, R95) -/

section
variable {f : Byte → Flags → Byte × Flags} {r : Byte → Byte} {flags : Byte → Flags} {s : State}

/-- The byte read is the operand byte, and the result goes to the address it was read at. -/
theorem modifyOperand_eq_afterOperand {o : Operand} (hf : ∀ v, f v s.flags = (r v, flags v))
    (hi : ∀ b, o ≠ .immediate b) :
    modifyOperand o f s =
      memWrite (target o s) (r (operandByte o s)) { afterOperand o s with flags := flags (operandByte o s) } := by
  rw [modifyOperand_eq, operandByte, afterOperand, readOperand_eq_memRead s hi]
  simp only [hf]
  rfl

theorem Executes.of_modifyOperand {forms : List Form} (hf : ∀ v, f v s.flags = (r v, flags v))
    (hbytes : forms.map (fun q => encode q.1) = forms.map (fun q => q.2.1))
    (hexec : forms.map (fun q => exec q.1 s) = forms.map (fun q => .next (modifyOperand q.2.2 f s)))
    (hi : ∀ b, .immediate b ∉ forms.map (fun q => q.2.2)) :
    Executes forms s fun o =>
      memWrite (target o s) (r (operandByte o s)) { afterOperand o s with flags := flags (operandByte o s) } :=
  .of_map (run := fun o => modifyOperand o f) hbytes hexec fun _ ho =>
    modifyOperand_eq_afterOperand hf fun b hb => hi b (hb ▸ ho)

/-- The accumulator form takes A for the operand byte (R81). -/
theorem ExecutesByte.of_modifyA {i : Instr} {op : Byte} (hf : ∀ v, f v s.flags = (r v, flags v)) (hbyte : encode i = [op])
    (hexec : exec i s = .next (modifyA f s)) : ExecutesByte i op s { s with a := r s.a, flags := flags s.a } := by
  rw [modifyA, hf] at hexec
  exact ⟨hbyte, hexec⟩

end

/-! ### ASL, ROL, LSR, ROR (R120 to R123) -/

/-- `{v[6:0], cin}` is the shift with the Carry in bit 0 (R107). -/
theorem rolCore_r (v : Byte) (cin : Bool) : (rolCore v cin).r = (v <<< 1) ||| (if cin then 0x01 else 0x00) := by
  refine BitVec.eq_of_getLsbD_eq fun k hk => ?_
  rw [rolCore_r_getLsbD]
  cases k with
  | zero => cases cin <;> simp
  | succ k =>
    have hk7 : k < 7 := Nat.succ_lt_succ_iff.mp hk
    cases cin <;> simp [hk, hk7, BitVec.getLsbD_eq_getElem (Nat.lt_of_succ_lt hk)]

/-- `{cin, v[7:1]}` is the shift with the Carry in bit 7 (R107). -/
theorem rorCore_r (v : Byte) (cin : Bool) : (rorCore v cin).r = (v >>> 1) ||| (if cin then 0x80 else 0x00) := by
  refine BitVec.eq_of_getLsbD_eq fun k hk => ?_
  rw [rorCore_r_getLsbD]
  have h80 : (0x80 : Byte) = BitVec.twoPow 8 7 := rfl
  by_cases hk7 : k < 7
  · cases cin <;> simp [hk7, h80, hk7.ne']
  · obtain rfl : k = 7 := by omega
    cases cin <;> simp

theorem aslByte_eq (v : Byte) (f : Flags) :
    aslByte v f = (v <<< 1, { f with c := v[7], n := (v <<< 1).msb, z := v <<< 1 == 0 }) := rfl

theorem rolByte_eq (v : Byte) (f : Flags) :
    rolByte v f =
      let r := (v <<< 1) ||| (if f.c then 0x01 else 0x00)
      (r, { f with c := v[7], n := r.msb, z := r == 0 }) := by
  rw [rolByte, shiftResult, rolCore_r]; rfl

theorem lsrByte_eq (v : Byte) (f : Flags) :
    lsrByte v f = (v >>> 1, { f with c := v[0], n := (v >>> 1).msb, z := v >>> 1 == 0 }) := rfl

theorem rorByte_eq (v : Byte) (f : Flags) :
    rorByte v f =
      let r := (v >>> 1) ||| (if f.c then 0x80 else 0x00)
      (r, { f with c := v[0], n := r.msb, z := r == 0 }) := by
  rw [rorByte, shiftResult, rorCore_r]; rfl

/-- Settles O29: each form is a read-modify-write, of A or of the operand byte, by its operation on a byte under the flags. -/
theorem shiftsAndRotates : Obligations.ShiftsAndRotates := by
  intro s p lo hi
  obtain ⟨w, rfl, rfl⟩ := exists_halves hi lo
  simp only [word16_halves]
  have hasl v := aslByte_eq v s.flags
  have hrol v := rolByte_eq v s.flags
  have hlsr v := lsrByte_eq v s.flags
  have hror v := rorByte_eq v s.flags
  exact ⟨⟨.of_modifyA hasl rfl rfl, .of_modifyOperand hasl rfl rfl (by simp)⟩,
    ⟨.of_modifyA hrol rfl rfl, .of_modifyOperand hrol rfl rfl (by simp)⟩,
    ⟨.of_modifyA hlsr rfl rfl, .of_modifyOperand hlsr rfl rfl (by simp)⟩,
    ⟨.of_modifyA hror rfl rfl, .of_modifyOperand hror rfl rfl (by simp)⟩⟩

/-! ### DEC, INC (R126, R127) -/

theorem decByte_eq (v : Byte) (f : Flags) : decByte v f = (v - 1, { f with n := (v - 1).msb, z := v - 1 == 0 }) := rfl

theorem incByte_eq (v : Byte) (f : Flags) : incByte v f = (v + 1, { f with n := (v + 1).msb, z := v + 1 == 0 }) := rfl

/-- Settles O31: each form is a read-modify-write by a count modulo 0x100, which writes N and Z alone (R108). -/
theorem decrementAndIncrementMemory : Obligations.DecrementAndIncrementMemory := by
  intro s p lo hi
  obtain ⟨w, rfl, rfl⟩ := exists_halves hi lo
  simp only [word16_halves]
  exact ⟨.of_modifyOperand (fun v => decByte_eq v s.flags) rfl rfl (by simp),
    .of_modifyOperand (fun v => incByte_eq v s.flags) rfl rfl (by simp)⟩

/-! ### LDX, LDY, STX, STY (R124, R125, R161, R162) -/

theorem ldxOperand_eq (o : Operand) (s : State) : ldxOperand o s = loadX (operandByte o s) (afterOperand o s) := by
  rw [ldxOperand, readOperand_eq_afterOperand]

theorem ldyOperand_eq (o : Operand) (s : State) : ldyOperand o s = loadY (operandByte o s) (afterOperand o s) := by
  rw [ldyOperand, readOperand_eq_afterOperand]

theorem stxOperand_eq {o : Operand} (s : State) (hi : ∀ b, o ≠ .immediate b) :
    stxOperand o s = memWrite (target o s) s.x (s.advancePC o.length) :=
  storeOperand_eq s.x s hi

theorem styOperand_eq {o : Operand} (s : State) (hi : ∀ b, o ≠ .immediate b) :
    styOperand o s = memWrite (target o s) s.y (s.advancePC o.length) :=
  storeOperand_eq s.y s hi

/-- Settles O30: the loads are of the operand byte; no form of the stores is Immediate, so each is one bus write. -/
theorem loadAndStoreXAndY : Obligations.LoadAndStoreXAndY := by
  intro s p lo hi
  obtain ⟨w, rfl, rfl⟩ := exists_halves hi lo
  simp only [word16_halves]
  exact ⟨.of_map (run := ldxOperand) rfl rfl fun o _ => ldxOperand_eq o s,
    .of_map (run := stxOperand) rfl rfl fun o ho => stxOperand_eq s fun b hb => by simp [hb] at ho,
    .of_map (run := ldyOperand) rfl rfl fun o _ => ldyOperand_eq o s,
    .of_map (run := styOperand) rfl rfl fun o ho => styOperand_eq s fun b hb => by simp [hb] at ho⟩

/-! ### The transfers, the register counts and NOP (R128 to R133, R169 to R173) -/

theorem loadA_eq (r : Byte) (s : State) :
    loadA r s = { s with a := r, flags := { s.flags with n := r.msb, z := r == 0 } } := rfl

theorem loadX_eq (r : Byte) (s : State) :
    loadX r s = { s with x := r, flags := { s.flags with n := r.msb, z := r == 0 } } := rfl

theorem loadY_eq (r : Byte) (s : State) :
    loadY r s = { s with y := r, flags := { s.flags with n := r.msb, z := r == 0 } } := rfl

/-- Settles O32: TXA and TYA load A; TAX, TSX, DEX and INX load X; TAY, DEY and INY load Y; TXS copies X to SP with no flag
(D22), and NOP answers the state it is given. -/
theorem registerTransfersAndCounts : Obligations.RegisterTransfersAndCounts := by
  intro s
  simp only [← loadA_eq, ← loadX_eq, ← loadY_eq]
  exact ⟨⟨rfl, rfl⟩, ⟨rfl, rfl⟩, ⟨rfl, rfl⟩, ⟨rfl, rfl⟩, ⟨rfl, rfl⟩, ⟨rfl, rfl⟩, ⟨rfl, rfl⟩, ⟨rfl, rfl⟩, ⟨rfl, rfl⟩,
    ⟨rfl, rfl⟩, ⟨rfl, rfl⟩⟩

end Sys2Proof.Machine
end

section
/-! PROOFS. The control flow (44_category00_control_flow.md): the branches and the jumps write PC alone, JSR, RTS, BRK and RTI
are the pushes and pulls of Laws/Ops.lean; and that RTS, RTI and PLA undo JSR, BRK and PHA, for every SP. -/

namespace Sys2Proof.Machine

/-! ### The branches (R93, R140 to R148) -/

theorem add_one_add_ofInt (pc : Addr) (k : Int) : pc + 1 + BitVec.ofInt 16 k = BitVec.ofInt 16 (pc.toNat + 1 + k) := by
  rw [BitVec.ofInt_add, BitVec.ofInt_add, BitVec.ofInt_natCast, BitVec.ofNat_toNat, BitVec.setWidth_eq]; rfl

/-- The target is one sum of integers modulo 0x10000, in which a branch not taken adds 0 (R140). -/
theorem branchIf_eq_ofInt (taken : Bool) (off : Byte) (s : State) :
    branchIf taken off s =
      { s with pc := BitVec.ofInt 16 (s.pc.toNat + 1 + if taken = true then off.toInt else 0) } := by
  rw [branchIf_eq, ← add_one_add_ofInt]
  cases taken with
  | true => rfl
  | false => simp

/-- `exec` compares the flag with the value it wants (`test`); `taken` is any other spelling of that condition. -/
theorem exec_eq_of_branchIf {i : Instr} {test taken : Bool} {off : Byte} {s : State}
    (hexec : exec i s = .next (branchIf test off s)) (htest : test = taken) :
    exec i s = .next
      { s with pc := BitVec.ofInt 16 (s.pc.toNat + 1 + if taken = true then off.toInt else 0) } := by
  rw [hexec, htest, branchIf_eq_ofInt]

/-- Settles O33: each form is a `branchIf` that wants its flag clear or set. -/
theorem branchesMoveOnlyPc : Obligations.BranchesMoveOnlyPc := by
  intro s off
  exact ⟨⟨rfl, exec_eq_of_branchIf rfl (beq_false _)⟩, ⟨rfl, exec_eq_of_branchIf rfl (beq_true _)⟩,
    ⟨rfl, exec_eq_of_branchIf rfl (beq_false _)⟩, ⟨rfl, exec_eq_of_branchIf rfl (beq_true _)⟩,
    ⟨rfl, exec_eq_of_branchIf rfl (beq_false _)⟩, ⟨rfl, exec_eq_of_branchIf rfl (beq_true _)⟩,
    ⟨rfl, exec_eq_of_branchIf rfl (beq_false _)⟩, ⟨rfl, exec_eq_of_branchIf rfl (beq_true _)⟩⟩

/-! ### JMP (R149, R91) -/

/-- Where PC stands does not matter to the pointer's word (R91). -/
theorem absoluteIndirect_eq (w : Addr) (s : State) :
    absoluteIndirect w s =
      ((readWord w s).1, { s with pc := s.pc + 2, freeReads := (readWord w s).2.freeReads }) := by
  obtain ⟨hword, hfree⟩ := readWord_congr (s := s) (t := s.advancePC 2) (p := w) rfl rfl rfl
  rw [absoluteIndirect]
  exact Prod.ext hword ((readWord_state w _).trans (by rw [hfree]; rfl))

theorem exec_jmpInd (w : Addr) (s : State) :
    exec (.jmpInd w) s = .next { s with pc := (readWord w s).1, freeReads := (readWord w s).2.freeReads } := by
  have hexec : exec (.jmpInd w) s = .next ((absoluteIndirect w s).2.setPC (absoluteIndirect w s).1) := rfl
  rw [hexec, absoluteIndirect_eq]; rfl

/-- Settles O34: the indirect form reads its word from the state before it; where both bytes are stated no free read is made. -/
theorem jumpsLoadPc : Obligations.JumpsLoadPc := by
  intro s lo hi
  obtain ⟨w, rfl, rfl⟩ := exists_halves hi lo
  simp only [word16_halves]
  refine ⟨rfl, rfl, rfl, exec_jmpInd w s, fun tl th hlo hhi => ?_⟩
  rw [exec_jmpInd, readWord_of_peek hlo hhi]

/-! ### JSR, RTS (R150, R151) -/

theorem exec_jsr (w : Addr) (s : State) :
    exec (.jsr w) s = .next { s with
      ram := (s.ram.write (0x100 + s.sp.toNat) (hiByte (s.pc + 1))).write (0x100 + (s.sp - 1).toNat) (loByte (s.pc + 1))
      sp := s.sp - 2
      pc := w } := by
  have hexec : exec (.jsr w) s = .next ((pushWord (s.pc + 1) s).setPC w) := rfl
  rw [hexec, pushWord_eq]; rfl

theorem exec_rts (s : State) :
    exec .rts s = .next { s with
      sp := s.sp + 2
      pc := word16 (s.ram.read (0x100 + (s.sp + 2).toNat)) (s.ram.read (0x100 + (s.sp + 1).toNat)) + 1 } := by
  have hexec : exec .rts s = .next ((pullWord s).2.setPC ((pullWord s).1 + 1)) := rfl
  rw [hexec, pullWord_eq]; rfl

/-- Settles O35: a pushed word, and a pulled word plus 1. -/
theorem jsrPushesAndRtsPulls : Obligations.JsrPushesAndRtsPulls := by
  intro s lo hi
  obtain ⟨w, rfl, rfl⟩ := exists_halves hi lo
  simp only [word16_halves]
  exact ⟨rfl, exec_jsr w s, rfl, exec_rts s⟩

/-! ### BRK, RTI (R152, R153, R208, R209) -/

/-- What an address of the cartridge region reads as depends on the mapper and its memory alone (R38, R41). -/
theorem peek_cartridge_congr {s t : State} {p : Addr} (hp : 0x4020 ≤ p.toNat) (hd : t.dram = s.dram)
    (hpar : s.sameParameters t) : t.peek p = s.peek p := by
  obtain ⟨hmap, hprg, hext, -⟩ := hpar
  simp only [peek_cartridge _ hp, peekPRG, hd, hmap, hprg, hext]

/-- A vector's word is that of any state with the same cartridge, and reading it changes nothing (R47). -/
theorem readWord_vector_congr {s t : State} {p : Addr} (h : 0x8000 ≤ p.toNat) (h' : p.toNat < 0xFFFF)
    (hd : t.dram = s.dram) (hpar : s.sameParameters t) (hf : t.freeReads = s.freeReads) :
    readWord p t = ((readWord p s).1, t) := by
  have hnext : 0x4020 ≤ (p + 1).toNat := by
    rw [BitVec.toNat_add_of_lt (by simp; omega)]; omega
  exact Prod.ext
    (readWord_congr (peek_cartridge_congr (by omega) hd hpar) (peek_cartridge_congr hnext hd hpar) hf).1
    (readWord_vector t h h')

/-- The vectored entry in one update: no push reaches the vector, so its word is the one of the state before (R208). -/
theorem enterVector_eq (ret : Addr) {vector : Addr} (s : State) (h : 0x8000 ≤ vector.toNat) (h' : vector.toNat < 0xFFFF) :
    enterVector ret vector s = { s with
      ram := ((s.ram.write (0x100 + s.sp.toNat) (hiByte ret)).write (0x100 + (s.sp - 1).toNat)
        (loByte ret)).write (0x100 + (s.sp - 2).toNat) (s.flags.setB true).pack
      sp := s.sp - 3
      flags := (s.flags.setB true).setI true
      pc := (readWord vector s).1 } := by
  have hsp : s.sp - 2 - 1 = s.sp - 3 := by rw [BitVec.sub_sub]; rfl
  simp only [enterVector, pushWord_eq, push_eq]
  rw [readWord_vector_congr (s := s) (t := State.setFlags _ _) h h']
  · simp only [State.setFlags, State.setPC, hsp]
  · rfl
  · exact ⟨rfl, rfl, rfl, rfl⟩
  · rfl

theorem exec_brk (s : State) :
    exec .brk s = .next { s with
      ram := ((s.ram.write (0x100 + s.sp.toNat) (hiByte (s.pc + 1))).write (0x100 + (s.sp - 1).toNat)
        (loByte (s.pc + 1))).write (0x100 + (s.sp - 2).toNat) (s.flags.setB true).pack
      sp := s.sp - 3
      flags := (s.flags.setB true).setI true
      pc := (readWord breakVector s).1 } :=
  congrArg Host.Outcome.next (enterVector_eq (s.pc + 1) s (vector := breakVector) (by decide) (by decide))

/-- Settles O36: the vectored entry through the IRQ/BRK vector. -/
theorem brkTakesTheVectoredEntry : Obligations.BrkTakesTheVectoredEntry := fun s => ⟨rfl, exec_brk s⟩

/-- The return from a vectored entry in one update (R209). -/
theorem returnFromVector_eq (s : State) :
    returnFromVector s = { s with
      flags := Flags.pulled (s.ram.read (0x100 + (s.sp + 1).toNat))
      pc := word16 (s.ram.read (0x100 + (s.sp + 3).toNat)) (s.ram.read (0x100 + (s.sp + 2).toNat))
      sp := s.sp + 3 } := by
  simp only [returnFromVector, pullFlags_eq, pullWord_eq, BitVec.add_assoc]; rfl

theorem exec_rti (s : State) :
    exec .rti s = .next { s with
      flags := Flags.pulled (s.ram.read (0x100 + (s.sp + 1).toNat))
      pc := word16 (s.ram.read (0x100 + (s.sp + 3).toNat)) (s.ram.read (0x100 + (s.sp + 2).toNat))
      sp := s.sp + 3 } :=
  congrArg Host.Outcome.next (returnFromVector_eq s)

/-- Settles O37: the return from a vectored entry; the flags are bits of the first byte pulled. -/
theorem rtiRestoresFlagsAndPc : Obligations.RtiRestoresFlagsAndPc := fun s => ⟨rfl, exec_rti s⟩

/-! ### The pulls undo the pushes (R12) -/

/-- The pulled byte is the pushed one, and SP is back. -/
theorem pull_push (v : Byte) (s : State) : pull (push v s) = (v, { s with ram := (push v s).ram }) := by
  simp only [pull_eq, push_eq, BitVec.sub_add_cancel, Memory.read_write_same]

/-- A write to a stack cell leaves the cell of another SP alone. -/
theorem read_write_stackCell_other (m : Memory) {p q : Byte} (v : Byte) (h : p ≠ q) :
    (m.write (0x100 + q.toNat) v).read (0x100 + p.toNat) = m.read (0x100 + p.toNat) :=
  Memory.read_write_other m v fun e => h (BitVec.eq_of_toNat_eq (Nat.add_left_cancel e))

/-- RTS answers the word that JSR pushed, plus 1. -/
theorem exec_rts_of_jsr (w : Addr) (s : State) :
    ∃ t, exec (.jsr w) s = .next t ∧ exec .rts t = .next { s with pc := s.pc + 2, ram := t.ram } := by
  have hlow : s.sp - 2 + 1 = s.sp - 1 := by bv_omega
  have hcells : s.sp ≠ s.sp - 1 := by bv_omega
  refine ⟨_, exec_jsr w s, (exec_rts _).trans ?_⟩
  simp only [BitVec.sub_add_cancel, hlow, Memory.read_write_same, read_write_stackCell_other _ _ hcells, word16_halves,
    BitVec.add_assoc]
  rfl

/-- Pulling the flag byte that was pushed with B set gives the flags back with B clear (R16, D21). -/
theorem pulled_pack_setB (f : Flags) : Flags.pulled (f.setB true).pack = { f with b := false } := by
  rw [Flags.pulled, Flags.unpack_pack]; rfl

/-- RTI answers the flags and the word that BRK pushed. -/
theorem exec_rti_of_brk (s : State) :
    ∃ t, exec .brk s = .next t ∧
      exec .rti t = .next { s with pc := s.pc + 1, ram := t.ram, flags := { s.flags with b := false } } := by
  have hflags : s.sp - 3 + 1 = s.sp - 2 := by bv_omega
  have hlow : s.sp - 3 + 2 = s.sp - 1 := by bv_omega
  have h01 : s.sp ≠ s.sp - 1 := by bv_omega
  have h02 : s.sp ≠ s.sp - 2 := by bv_omega
  have h12 : s.sp - 1 ≠ s.sp - 2 := by bv_omega
  refine ⟨_, exec_brk s, (exec_rti _).trans ?_⟩
  simp only [BitVec.sub_add_cancel, hflags, hlow, Memory.read_write_same, read_write_stackCell_other _ _ h01,
    read_write_stackCell_other _ _ h02, read_write_stackCell_other _ _ h12, word16_halves, pulled_pack_setB]

/-- PLA loads A with the A that PHA pushed (R167, R168). -/
theorem exec_pla_of_pha (s : State) :
    ∃ t, exec .pha s = .next t ∧
      exec .pla t = .next { s with ram := t.ram, flags := { s.flags with n := s.a.msb, z := s.a == 0 } } := by
  have hpla (t : State) : exec .pla t = .next (loadA (pull t).1 (pull t).2) := rfl
  refine ⟨_, rfl, (hpla (push s.a s)).trans ?_⟩
  rw [pull_push, loadA_eq]

/-- Settles O59: each pull reads the cells that the pushes wrote, which are different cells at every SP. -/
theorem callsAndReturnsAreInverse : Obligations.CallsAndReturnsAreInverse := fun s w =>
  ⟨exec_rts_of_jsr w s, exec_rti_of_brk s, exec_pla_of_pha s⟩

end Sys2Proof.Machine
end

section
/-! PROOFS. BIT, CPX, CPY, the stack and the flags (45_category00_data_stack_flags.md): BIT, CPX and CPY write flags from
the operand byte; PHA, PHP, PLA and PLP are one push or pull of Laws/Ops.lean each; and the seven instructions that write
a constant to one flag. -/

namespace Sys2Proof.Machine

/-! ### BIT (R160) -/

theorem bitOperand_eq (o : Operand) (s : State) :
    bitOperand o s = (afterOperand o s).setFlags (bitFlags s.a (operandByte o s) s.flags) := by
  rw [bitOperand, readOperand_eq_afterOperand]; rfl

/-- Settles O38: once its operand is read, each form writes the flags of `bitFlags` and nothing else. -/
theorem bitTestSetsThreeFlags : Obligations.BitTestSetsThreeFlags := by
  intro s p lo hi
  obtain ⟨w, rfl, rfl⟩ := exists_halves hi lo
  simp only [word16_halves]
  exact .of_map (run := bitOperand) rfl rfl fun o _ => bitOperand_eq o s

/-! ### CPX, CPY (R163, R164) -/

theorem cpxOperand_eq (o : Operand) (s : State) :
    cpxOperand o s = (afterOperand o s).setFlags (cmpCoreXY s.x (operandByte o s) s.flags) := by
  rw [cpxOperand, readOperand_eq_afterOperand]; rfl

theorem cpyOperand_eq (o : Operand) (s : State) :
    cpyOperand o s = (afterOperand o s).setFlags (cmpCoreXY s.y (operandByte o s) s.flags) := by
  rw [cpyOperand, readOperand_eq_afterOperand]; rfl

/-- Settles O39: N is that of the difference, as `cmpCoreXY` takes it (D29). -/
theorem compareXAndYTakeNFromTheDifference : Obligations.CompareXAndYTakeNFromTheDifference := by
  intro s p lo hi
  obtain ⟨w, rfl, rfl⟩ := exists_halves hi lo
  simp only [word16_halves]
  exact ⟨.of_map (run := cpxOperand) rfl rfl fun o _ => cpxOperand_eq o s,
    .of_map (run := cpyOperand) rfl rfl fun o _ => cpyOperand_eq o s⟩

/-! ### PHA, PHP, PLA, PLP (R165 to R168) -/

theorem exec_pha (s : State) :
    exec .pha s = .next { s with ram := s.ram.write (0x100 + s.sp.toNat) s.a, sp := s.sp - 1 } :=
  congrArg Host.Outcome.next (push_eq s.a s)

theorem exec_php (s : State) :
    exec .php s = .next { s with ram := s.ram.write (0x100 + s.sp.toNat) s.flags.pack, sp := s.sp - 1 } :=
  congrArg Host.Outcome.next (push_eq s.flags.pack s)

theorem exec_pla (s : State) :
    exec .pla s = .next (loadA (s.ram.read (0x100 + (s.sp + 1).toNat)) { s with sp := s.sp + 1 }) :=
  congrArg (fun m : Byte × State => Host.Outcome.next (loadA m.1 m.2)) (pull_eq s)

theorem exec_plp (s : State) :
    exec .plp s = .next { s with
      flags := Flags.pulled (s.ram.read (0x100 + (s.sp + 1).toNat)), sp := s.sp + 1 } :=
  congrArg Host.Outcome.next (pullFlags_eq s)

/-- Settles O40: one push or pull each; the flags PLP leaves are bits of the byte pulled, with B clear (D21). -/
theorem stackInstructionsPushAndPull : Obligations.StackInstructionsPushAndPull := fun s =>
  have hbit5 : s.flags.pack[5] = true := s.flags.pack_getLsbD 5
  have hbit4 : s.flags.pack[4] = s.flags.b := s.flags.pack_getLsbD 4
  ⟨⟨rfl, exec_pha s⟩, ⟨rfl, exec_php s⟩, hbit5, hbit4, ⟨rfl, exec_pla s⟩, ⟨rfl, exec_plp s⟩⟩

/-! ### CLC, SEC, CLI, SEI, CLV, CLD, SED (R175 to R181) -/

/-- An instruction whose meaning is one update of the flags, with its byte. -/
theorem ExecutesByte.of_setFlags {i : Instr} {op : Byte} {s : State} {f : Flags} (hbyte : encode i = [op])
    (hexec : exec i s = .next (s.setFlags f)) : ExecutesByte i op s { s with flags := f } :=
  ⟨hbyte, hexec⟩

/-- Settles O41: each is one flag setter, applied to the flags of the state. -/
theorem flagInstructionsWriteOneFlag : Obligations.FlagInstructionsWriteOneFlag := fun s =>
  ⟨.of_setFlags (f := s.flags.setC false) rfl rfl,
    .of_setFlags (f := s.flags.setC true) rfl rfl,
    .of_setFlags (f := s.flags.setI false) rfl rfl,
    .of_setFlags (f := s.flags.setI true) rfl rfl,
    .of_setFlags (f := s.flags.setV false) rfl rfl,
    .of_setFlags (f := s.flags.setD false) rfl rfl,
    .of_setFlags (f := s.flags.setD true) rfl rfl⟩

end Sys2Proof.Machine
end

section
/-! PROOFS. The conditions (60_exceptions.md R200 to R206): a bus write reports a rejection exactly where the NROM-like mapper
answers it, and what else an instruction reports is its entry in the table `Instr.conditions`. -/

namespace Sys2Proof

/-! ### The table of conditions, where it has one entry -/

theorem conditions_of_unimplemented {i : Instr} (c : Machine.Condition) (h : i.mnemonic = .unimplemented) :
    i.conditions c = [.unimplementedOpcode] := by
  unfold Instr.conditions
  split
  case h_6 => rw [h, Mnemonic.conditions]
  -- 0x89 and the four accumulator forms.
  all_goals cases h

/-- An implemented instruction whose mnemonic writes no data byte reports nothing, the pushes included (R201). -/
theorem conditions_of_not_storing {i : Instr} (c : Machine.Condition)
    (h : i.mnemonic ∉ [.unimplemented, .sta, .stx, .sty, .asl, .rol, .lsr, .ror, .inc, .dec]) :
    i.conditions c = [c] := by
  have hmnemonic : i.mnemonic.conditions c = [c] := by
    revert h
    cases i.mnemonic <;> simp [Mnemonic.conditions]
  unfold Instr.conditions
  split
  case h_1 => simp [Instr.mnemonic] at h
  case h_6 => exact hmnemonic
  -- The four accumulator forms.
  all_goals rfl

/-- An accumulator form reports nothing (R81). -/
theorem conditions_of_accumulatorForm {i : Instr} (c : Machine.Condition) (h : i ∈ Machine.accumulatorForms) :
    i.conditions c = [c] := by
  simp only [Machine.accumulatorForms, List.mem_cons, List.not_mem_nil, or_false] at h
  obtain rfl | rfl | rfl | rfl := h <;> rfl

end Sys2Proof

namespace Sys2Proof.Machine

/-! ### What is reported -/

/-- `exec_cond`, where the instruction has one condition. -/
theorem cond_of_exec {i : Instr} {s t : State} {c : Condition} (ht : exec i s = .next t)
    (hc : i.conditions s.cond = [c]) : t.cond = c := by
  obtain ⟨u, hu, hmem⟩ := exec_cond i s
  obtain rfl := eq_of_exec hu ht
  rwa [hc, List.mem_singleton] at hmem

/-- A bus write reports a rejection exactly where it reaches the NROM-like mapper (R39, R204). -/
theorem memWrite_cond (p : Addr) (v : Byte) (s : State) :
    (memWrite p v s).cond =
      if s.mapper = .nrom ∧ 0x4020 ≤ p.toNat then .mapperWriteRejected else s.cond := by
  simp only [← regionOf_eq_cartridge_iff]
  rcases memWrite_cases p v s with ⟨hp, h⟩ | ⟨hp | hp, h⟩ | ⟨hp, hm, h⟩ | ⟨-, hm, h⟩
  · simp [h, hp]
  · simp [h, hp]
  · simp [h, hp]
  · simp [h, hp, hm]
  · simp [h, hm]

/-- Nothing but the one write reports. -/
theorem WritesOnceAt.cond_eq {o : Operand} {s t : State} (h : WritesOnceAt o s t) :
    t.cond = if s.mapper = .nrom ∧ 0x4020 ≤ (target o s).toNat then .mapperWriteRejected else s.cond := by
  obtain ⟨v, u, rfl, -, hu⟩ := h
  obtain ⟨-, -, -, hcond, hmapper, -⟩ := (blankRegisters_eq_iff s u).mp hu
  rw [memWrite_cond, hcond, hmapper]

/-- Settles O49: a form that writes a data byte reports what its one bus write does; any other instruction has one condition in
the table. -/
theorem conditionsAreReportedExactlyWhenTheRulesSay : Obligations.ConditionsAreReportedExactlyWhenTheRulesSay := by
  refine fun s t => ⟨fun i hi ht => ?_, fun b ht => ?_, fun p w f hf ht => ?_, fun i hi ht => ?_⟩
  · exact cond_of_exec ht (conditions_of_unimplemented _ hi)
  · exact cond_of_exec ht rfl
  · obtain ⟨u, hu, hw⟩ := List.forall_iff_forall_mem.mp (exec_storingForms p w s) f hf
    obtain rfl := eq_of_exec hu ht
    exact hw.cond_eq
  · exact cond_of_exec ht (hi.elim (conditions_of_not_storing _) (conditions_of_accumulatorForm _))

/-! ### The 104 unimplemented bytes (R203) -/

/-- One-byte instructions that have their bytes and all answer the same state (two equations of lists). -/
theorem ExecutesByte.forall_of_map {forms : List (Instr × Byte)} {s t : State}
    (hbytes : forms.map (fun f => encode f.1) = forms.map (fun f => [f.2]))
    (hexec : forms.map (fun f => exec f.1 s) = forms.map (fun _ => .next t)) :
    forms.Forall fun f => ExecutesByte f.1 f.2 s t :=
  List.forall_iff_forall_mem.mpr fun f hf => ⟨List.map_inj_left.mp hbytes f hf, List.map_inj_left.mp hexec f hf⟩

/-- Settles O42: each of the 104 is the report of R203 and nothing else. -/
theorem unimplementedOpcodesOnlyReport : Obligations.UnimplementedOpcodesOnlyReport := fun _ =>
  ⟨rfl, ExecutesByte.forall_of_map rfl rfl⟩

end Sys2Proof.Machine
end

section
/-! PROOFS. The host's transactions `reset()` and `step(n)` (70_reset_and_hazards.md R222 to R225) and the states of a run:
what `reset()` and every completed step keep, every run keeps (`Reachable.of_invariant`). -/

namespace Sys2Proof.Machine

/-! ### `reset()` (R222, R223) -/

theorem sameParameters_setEngine (s : State) (e : Engine) : s.sameParameters (s.setEngine e) := ⟨rfl, rfl, rfl, rfl⟩

/-- `reset()` in one update: every mapper states the vector's bytes, so reading them leaves even `freeReads` alone. -/
theorem resetTransaction_eq (s : State) :
    resetTransaction s =
      { s with pc := (readWord resetVector s).1, flags := Flags.initial, engine := .running } := by
  have hvector : readWord resetVector (s.setEngine .reset) = ((readWord resetVector s).1, s.setEngine .reset) :=
    readWord_vector_congr (by decide) (by decide) rfl (sameParameters_setEngine s .reset) rfl
  rw [resetTransaction, hvector]
  rfl

theorem resetTransaction_sameParameters (s : State) : s.sameParameters (resetTransaction s) := by
  rw [resetTransaction_eq]
  exact ⟨rfl, rfl, rfl, rfl⟩

/-- The vector is in the cartridge, which `reset()` does not write (R47, R222). -/
theorem readWord_resetVector_resetTransaction (s : State) :
    (readWord resetVector (resetTransaction s)).1 = (readWord resetVector s).1 := by
  have hvector := readWord_vector_congr (p := resetVector) (s := s) (t := resetTransaction s) (by decide) (by decide)
    (by rw [resetTransaction_eq]) (resetTransaction_sameParameters s) (by rw [resetTransaction_eq])
  rw [hvector]

theorem resetTransaction_idempotent (s : State) : resetTransaction (resetTransaction s) = resetTransaction s := by
  rw [resetTransaction_eq (resetTransaction s), readWord_resetVector_resetTransaction, resetTransaction_eq s]

/-- Settles O57: `reset()` is one update, and each mapper states what the vector's two addresses read as. -/
theorem resetLoadsPcAndFlagsOnly : Obligations.ResetLoadsPcAndFlagsOnly := by
  intro s
  refine ⟨resetTransaction_eq s, ?_, fun lo hi hlo hhi => ?_, fun hm => ⟨?_, ?_⟩, fun hm => ⟨?_, ?_⟩,
    resetTransaction_idempotent s⟩
  · rw [resetTransaction_eq]
    exact (by decide : Flags.initial.pack = 0x24)
  · have hword : readWord resetVector s = (word16 hi lo, s) := readWord_of_peek hlo hhi
    rw [resetTransaction_eq, hword]
  · exact peek_nrom_window hm (by decide)
  · exact peek_nrom_window hm (by decide)
  · exact peek_dummy hm (by decide)
  · exact peek_dummy hm (by decide)

/-! ### `step(n)` (R225) -/

theorem stepTimes_succ_of_next {s t : State} (n : Nat) (h : step s = .next t) :
    stepTimes (n + 1) s = stepTimes n t := by
  rw [stepTimes, h]

theorem stepTimes_one (s : State) : stepTimes 1 s = step s := by
  rw [stepTimes]
  cases step s <;> rfl

/-- The first m steps decide whether the last n are taken. -/
theorem stepTimes_add (m n : Nat) (s : State) :
    stepTimes (m + n) s = (match stepTimes m s with
      | .next t => stepTimes n t
      | .fault r => .fault r
      | .refused r => .refused r) := by
  induction m generalizing s with
  | zero => rw [Nat.zero_add]; rfl
  | succ m ih =>
    rw [Nat.add_right_comm, stepTimes, stepTimes]
    cases step s with
    | next t => exact ih t
    | fault r => rfl
    | refused r => rfl

theorem stepTimes_of_running (n : Nat) {s : State} (hs : s.engine = .running) :
    ∃ t, stepTimes n s = .next t ∧ t.engine = .running := by
  induction n generalizing s with
  | zero => exact ⟨s, rfl, hs⟩
  | succ n ih =>
    obtain ⟨-, hcompletes, -⟩ := stepAlwaysCompletesWhileRunning
    obtain ⟨u, hu, hrun⟩ := hcompletes s hs
    rw [stepTimes_succ_of_next n hu]
    exact ih hrun

/-- Settles O58: both clauses by induction on the number of steps. -/
theorem stepNIsNSequentialSteps : Obligations.StepNIsNSequentialSteps := fun m n s =>
  ⟨rfl, stepTimes_one s, stepTimes_add m n s, stepTimes_of_running n⟩

/-! ### What every run keeps (R225, R228) -/

section
variable {I : State → Prop} {s t : State}

theorem stepTimes_keeps (hstep : ∀ s t, I s → step s = .next t → I t) {n : Nat} (hs : I s)
    (h : stepTimes n s = .next t) : I t := by
  induction n generalizing s with
  | zero => exact Host.Outcome.next.inj h ▸ hs
  | succ n ih =>
    cases hu : step s with
    | next u => exact ih (hstep s u hs hu) (stepTimes_succ_of_next n hu ▸ h)
    | fault r => simp [stepTimes, hu] at h
    | refused r => simp [stepTimes, hu] at h

theorem transact_keeps (hreset : ∀ s, I s → I (resetTransaction s)) (hstep : ∀ s t, I s → step s = .next t → I t)
    {q : Transaction} (hs : I s) (h : transact q s = .next t) : I t := by
  cases q with
  | reset => exact Host.Outcome.next.inj h ▸ hreset s hs
  | step => exact hstep s t hs h
  | steps n => exact stepTimes_keeps hstep hs h

/-- What holds after `power_on` and `reset()` and is kept by `reset()` and by every completed step holds along every run. -/
theorem Reachable.of_invariant {P : Params} (hstart : ∀ s, powerOn P = .next s → I (resetTransaction s))
    (hreset : ∀ s, I s → I (resetTransaction s)) (hstep : ∀ s t, I s → step s = .next t → I t)
    (h : Reachable P s) : I s := by
  induction h with
  | start s h => exact hstart s h
  | more _ _ _ _ h ih => exact transact_keeps hreset hstep ih h

end

/-! ### The states of a run with accepted parameters (R7, R42) -/

/-- `power_on` answers a state for accepted parameters only. -/
theorem powerOn_eq_next {P : Params} {s : State} (h : powerOn P = .next s) : P.wf = true ∧ s = powerOnState P := by
  unfold powerOn at h
  split_ifs at h with hcart harr
  exact ⟨by simp [Params.wf, hcart, harr], (Host.Outcome.next.inj h).symm⟩

/-- The arrays of accepted parameters are well formed; with the NROM-like mapper the length of PRG is one of the two that
isExtended() distinguishes (R42). -/
theorem powerOnState_memoryOk {P : Params} (h : P.wf = true) : (powerOnState P).memoryOk = true := by
  simp only [Params.wf, Params.arraysOk, Params.prgOk, Params.dummyOk, Params.ramOk, Bool.and_eq_true] at h
  obtain ⟨hcart, ⟨⟨hprg, hprgIn⟩, hdummy, hdummyIn⟩, hram, hramIn⟩ := h
  refine (memoryOk_iff _).mpr ⟨hram, hramIn, hdummy, hdummyIn, hprg, ?_⟩
  cases hm : P.mapper with
  | dummy => exact .inl hm
  | nrom =>
    have hlength : P.prgLength = 0x4000 ∨ P.prgLength = 0x8000 := by simpa [Params.cartridgeOk, hm] using hcart
    refine .inr ?_
    rcases hlength with hl | hl <;> simpa [powerOnState, hl] using hprgIn

/-- `reset()` sets the engine Running and writes no array. -/
theorem resetTransaction_inv {s : State} (h : s.memoryOk = true) : (resetTransaction s).Inv := by
  rw [resetTransaction_eq]
  exact ⟨h, rfl⟩

theorem sameParameters_trans {s t u : State} (hst : s.sameParameters t) (htu : t.sameParameters u) :
    s.sameParameters u := by
  obtain ⟨hmap, hprg, hext, hadc⟩ := htu
  simpa only [State.sameParameters, hmap, hprg, hext, hadc] using hst

/-- The invariant of a run with the parameters. -/
def State.InRun (P : Params) (s : State) : Prop := s.Inv ∧ (powerOnState P).sameParameters s

theorem resetTransaction_inRun {P : Params} {s : State} (hmem : s.memoryOk = true)
    (hpar : (powerOnState P).sameParameters s) : (resetTransaction s).InRun P :=
  ⟨resetTransaction_inv hmem, sameParameters_trans hpar (resetTransaction_sameParameters s)⟩

theorem step_inRun {P : Params} {s t : State} (hs : s.InRun P) (h : step s = .next t) : t.InRun P := by
  obtain ⟨hinv, hpar⟩ := hs
  obtain ⟨hkept, -⟩ := parametersAndCartridgeNeverChange s t h
  exact ⟨stepKeepsTheInvariant s t hinv h, sameParameters_trans hpar hkept⟩

theorem Reachable.inRun {P : Params} {s : State} (h : Reachable P s) : s.InRun P := by
  refine h.of_invariant (fun s hs => ?_) (fun s hs => ?_) (fun _ _ => step_inRun)
  · obtain ⟨hwf, rfl⟩ := powerOn_eq_next hs
    exact resetTransaction_inRun (powerOnState_memoryOk hwf) ⟨rfl, rfl, rfl, rfl⟩
  · obtain ⟨⟨hmem, -⟩, hpar⟩ := hs
    exact resetTransaction_inRun hmem hpar

/-- Settles O54: the invariant of a run, with the fields of `powerOnState` read off. -/
theorem reachableStatesMeetTheInvariant : Obligations.ReachableStatesMeetTheInvariant := by
  intro P s h
  obtain ⟨hinv, hmap, hprg, hext, hadc⟩ := h.inRun
  exact ⟨hinv, hmap, hprg, hext, hadc⟩

end Sys2Proof.Machine
end

section
/-! PROOFS. The fetch against the decoder (70_reset_and_hazards.md R224; 20_memory.md R51, R53): the reads of a fetch are those
of the instruction's bytes in ascending order, whatever PC is while they are made. -/

namespace Sys2Proof

theorem length_of_decode {bytes : List Byte} {i : Instr} (h : decode bytes = .ok (i, [])) : bytes.length = i.length := by
  obtain ⟨op, p, hi, rfl⟩ := decode_eq_ok_iff.mp h
  obtain ⟨-, -, hlength, -⟩ := (cellOf_agrees op).of_instr hi
  simp [hlength]

end Sys2Proof

namespace Sys2Proof.Machine

/-! ### Reads do not depend on PC or on what was reported (R31) -/

theorem report_peek (c : Condition) (s : State) (q : Addr) : (s.report c).peek q = s.peek q := rfl

theorem memRead_advancePC (q : Addr) (n : Nat) (s : State) :
    memRead q (s.advancePC n) = ((memRead q s).1, (memRead q s).2.advancePC n) := by
  simp only [memRead, State.advancePC, setPC_peek]
  cases s.peek q <;> rfl

theorem readWord_advancePC (q : Addr) (n : Nat) (s : State) :
    readWord q (s.advancePC n) = ((readWord q s).1, (readWord q s).2.advancePC n) := by
  simp only [readWord, memRead_advancePC]

/-! ### Consecutive reads (R53) -/

theorem readBytes_pc (n : Nat) (p : Addr) (s : State) : (readBytes n p s).2.pc = s.pc := by
  induction n generalizing p s with
  | zero => rfl
  | succ n ih => exact (ih (p + 1) _).trans (memRead_pc p s)

/-- Where the spec states the bytes, the reads answer them and change nothing (R46). -/
theorem readBytes_of_peek {bytes : List Byte} {p : Addr} {s : State}
    (h : ∀ k : Fin bytes.length, s.peek (p + BitVec.ofNat 16 k) = some bytes[k]) :
    readBytes bytes.length p s = (bytes, s) := by
  induction bytes generalizing p with
  | nil => rfl
  | cons b bytes ih =>
    have hhead : s.peek p = some b := by simpa using h 0
    have htail : readBytes bytes.length (p + 1) s = (bytes, s) := by
      refine ih fun k => ?_
      have haddr : p + BitVec.ofNat 16 k.succ = p + 1 + BitVec.ofNat 16 k := by
        rw [Fin.val_succ, Nat.add_comm, BitVec.ofNat_add, ← BitVec.add_assoc]
        rfl
      exact haddr ▸ h k.succ
    simp only [List.length_cons, readBytes, memRead_of_peek hhead, htail]

/-! ### The fetch -/

/-- A fetch reads the bytes of the instruction it answers, as the cell of the opcode byte says (R60, R62, R224). -/
theorem fetch_of_readBytes {op : Byte} {p : Payload} {i : Instr} {s t : State} (hi : (cellOf op).instr p = some i)
    (hread : readBytes (p.bytes.length + 1) s.pc s = (op :: p.bytes, t)) : fetch s = (i, t.advancePC 1) := by
  obtain ⟨hc, rfl⟩ | ⟨f, b, hc, rfl, rfl⟩ | ⟨f, w, hc, rfl, rfl⟩ := Cell.instr_cases hi
  · obtain ⟨rfl, rfl⟩ : (memRead s.pc s).1 = op ∧ (memRead s.pc s).2 = t := by
      simpa [readBytes, Payload.bytes] using hread
    simp [fetch, hc]
  · obtain ⟨rfl, rfl, rfl⟩ : (memRead s.pc s).1 = op ∧ (memRead (s.pc + 1) (memRead s.pc s).2).1 = b ∧
        (memRead (s.pc + 1) (memRead s.pc s).2).2 = t := by
      simpa [readBytes, Payload.bytes, and_assoc] using hread
    simp [fetch, hc, memRead_advancePC]
  · obtain ⟨rfl, hlo, hhi, rfl⟩ : (memRead s.pc s).1 = op ∧ (memRead (s.pc + 1) (memRead s.pc s).2).1 = loByte w ∧
        (memRead (s.pc + 1 + 1) (memRead (s.pc + 1) (memRead s.pc s).2).2).1 = hiByte w ∧
        (readWord (s.pc + 1) (memRead s.pc s).2).2 = t := by
      simpa [readBytes, readWord, Payload.bytes, and_assoc] using hread
    have hword : (readWord (s.pc + 1) (memRead s.pc s).2).1 = w := by
      rw [readWord, hlo, hhi, word16_halves]
    subst hword
    simp [fetch, hc, readWord_advancePC]

/-- A step is `exec` of the instruction whose bytes the reads at PC answer, from the state they leave (R224, R201). -/
theorem step_of_readBytes {s t : State} {bytes : List Byte} {i : Instr} (hs : s.engine = .running)
    (hread : readBytes bytes.length s.pc (s.report .ok) = (bytes, t)) (hdecode : decode bytes = .ok (i, [])) :
    step s = exec i { t with pc := s.pc + 1 } := by
  obtain ⟨op, p, hi, rfl⟩ := decode_eq_ok_iff.mp hdecode
  rw [List.append_nil, List.length_cons] at hread
  have hfetch : fetch (s.report .ok) = (i, t.advancePC 1) := fetch_of_readBytes hi hread
  have hpc : t.pc = s.pc := by
    simpa only [hread, State.report_pc] using readBytes_pc (p.bytes.length + 1) s.pc (s.report .ok)
  rw [step_running hs, hfetch, State.advancePC, hpc]
  rfl

/-- Settles O50: the bytes that decode are as many as the instruction is long, and reading stated bytes changes nothing. -/
theorem stepRunsTheDecodedInstruction : Obligations.StepRunsTheDecodedInstruction := by
  refine fun s i hs => ⟨fun bytes s1 hread hdecode => ?_, fun bytes hdecode hpeek => ?_⟩
  · rw [← length_of_decode hdecode] at hread
    exact step_of_readBytes (t := s1) hs hread hdecode
  · have hread : readBytes bytes.length s.pc (s.report .ok) = (bytes, s.report .ok) :=
      readBytes_of_peek fun k => (report_peek .ok s _).trans (hpeek k)
    exact step_of_readBytes (t := s.report .ok) hs hread hdecode

end Sys2Proof.Machine
end
